-- ==== Sys2Proof/Word.lean ====
section
/-! DEFINITION. The byte and the 16-bit word of the core (spec 00_scope.md R4, R6). -/

namespace Sys2Proof

/-- An 8-bit value: a general register, a byte of memory, an n8 or a raw e8 (R4, R8). -/
abbrev Byte := BitVec 8

/-- A 16-bit value: a register pair, SP, PC, an address or an n16 (R4, R8). -/
abbrev Word := BitVec 16

end Sys2Proof
end

