-- ==== Sys2Proof/Syntax.lean ====
section
/-! DEFINITION. The instruction syntax: the operand codes (spec 30_encoding.md R103 to R109), `Instr` with one
constructor per row of opcode_table.json (R113, R114, R110), and `Kind`, the kind of an instruction object with its
operand codes bound at decode (10_state.md R28, 30_encoding.md R111). -/

namespace Sys2Proof

/-- The register operands of the 8-bit code r; code 6, `(HL)`, is never a register (R103). -/
inductive R8 | b | c | d | e | h | l | a
  deriving DecidableEq, Repr

/-- The 16-bit register code p of LD rr, INC rr, DEC rr, ADD HL,rr (R104). -/
inductive R16 | bc | de | hl | sp
  deriving DecidableEq, Repr

/-- The 16-bit register code p of PUSH and POP (R105). -/
inductive R16Stk | bc | de | hl | af
  deriving DecidableEq, Repr

/-- The pointer of LD A,(rr) and LD (rr),A: BC, DE, HL with post-increment, HL with post-decrement (R233, R235,
R237, R238). -/
inductive Ptr | bc | de | hlInc | hlDec
  deriving DecidableEq, Repr

/-- The condition code cc of the conditional forms (R107). -/
inductive Cond | nz | z | nc | c
  deriving DecidableEq, Repr

/-- The ALU operation code o (R108). -/
inductive AluOp | add | adc | sub | sbc | and | xor | or | cp
  deriving DecidableEq, Repr

/-- The rotate and shift code k (R109). -/
inductive RotOp | rlc | rrc | rl | rr | sla | sra | swap | srl
  deriving DecidableEq, Repr

/-- One constructor per row of opcode_table.json. An operand is an immediate of the encoding: `n` an n8, `e` a
raw e8 byte, `nn` an n16 (R106). -/
inductive Instr where
  -- the forms with an immediate, in the order of the map (R113); they stand first because the runtime allows a
  -- constructor with a field only among the first constructors of a type
  | ldBcN16 (nn : Word) | ldBN8 (n : Byte) | ldMemN16Sp (nn : Word) | ldCN8 (n : Byte) | ldDeN16 (nn : Word)
  | ldDN8 (n : Byte) | jrE8 (e : Byte) | ldEN8 (n : Byte) | jrNzE8 (e : Byte) | ldHlN16 (nn : Word)
  | ldHN8 (n : Byte) | jrZE8 (e : Byte) | ldLN8 (n : Byte) | jrNcE8 (e : Byte) | ldSpN16 (nn : Word)
  | ldMemHlN8 (n : Byte) | jrCE8 (e : Byte) | ldAN8 (n : Byte) | jpNzN16 (nn : Word) | jpN16 (nn : Word)
  | callNzN16 (nn : Word) | addAN8 (n : Byte) | jpZN16 (nn : Word) | callZN16 (nn : Word)
  | callN16 (nn : Word) | adcAN8 (n : Byte) | jpNcN16 (nn : Word) | callNcN16 (nn : Word) | subAN8 (n : Byte)
  | jpCN16 (nn : Word) | callCN16 (nn : Word) | sbcAN8 (n : Byte) | ldhMemN8A (n : Byte) | andAN8 (n : Byte)
  | addSpE8 (e : Byte) | ldMemN16A (nn : Word) | xorAN8 (n : Byte) | ldhAMemN8 (n : Byte) | orAN8 (n : Byte)
  | ldHlSpE8 (e : Byte) | ldAMemN16 (nn : Word) | cpAN8 (n : Byte)
  -- 0x00 to 0x0F (R113)
  | nop | ldMemBcA | incBc | incB | decB | rlca | addHlBc | ldAMemBc | decBc | incC | decC | rrca
  -- 0x10 to 0x1F (R113)
  | stop | ldMemDeA | incDe | incD | decD | rla | addHlDe | ldAMemDe | decDe | incE | decE | rra
  -- 0x20 to 0x2F (R113)
  | ldMemHlIncA | incHl | incH | decH | daa | addHlHl | ldAMemHlInc | decHl | incL | decL | cpl
  -- 0x30 to 0x3F (R113)
  | ldMemHlDecA | incSp | incMemHl | decMemHl | scf | addHlSp | ldAMemHlDec | decSp | incA | decA | ccf
  -- 0x40 to 0x4F (R113)
  | ldBB | ldBC | ldBD | ldBE | ldBH | ldBL | ldBMemHl | ldBA | ldCB | ldCC | ldCD | ldCE | ldCH | ldCL
  | ldCMemHl | ldCA
  -- 0x50 to 0x5F (R113)
  | ldDB | ldDC | ldDD | ldDE | ldDH | ldDL | ldDMemHl | ldDA | ldEB | ldEC | ldED | ldEE | ldEH | ldEL
  | ldEMemHl | ldEA
  -- 0x60 to 0x6F (R113)
  | ldHB | ldHC | ldHD | ldHE | ldHH | ldHL | ldHMemHl | ldHA | ldLB | ldLC | ldLD | ldLE | ldLH | ldLL
  | ldLMemHl | ldLA
  -- 0x70 to 0x7F (R113)
  | ldMemHlB | ldMemHlC | ldMemHlD | ldMemHlE | ldMemHlH | ldMemHlL | halt | ldMemHlA | ldAB | ldAC | ldAD
  | ldAE | ldAH | ldAL | ldAMemHl | ldAA
  -- 0x80 to 0x8F (R113)
  | addAB | addAC | addAD | addAE | addAH | addAL | addAMemHl | addAA | adcAB | adcAC | adcAD | adcAE | adcAH
  | adcAL | adcAMemHl | adcAA
  -- 0x90 to 0x9F (R113)
  | subAB | subAC | subAD | subAE | subAH | subAL | subAMemHl | subAA | sbcAB | sbcAC | sbcAD | sbcAE | sbcAH
  | sbcAL | sbcAMemHl | sbcAA
  -- 0xA0 to 0xAF (R113)
  | andAB | andAC | andAD | andAE | andAH | andAL | andAMemHl | andAA | xorAB | xorAC | xorAD | xorAE | xorAH
  | xorAL | xorAMemHl | xorAA
  -- 0xB0 to 0xBF (R113)
  | orAB | orAC | orAD | orAE | orAH | orAL | orAMemHl | orAA | cpAB | cpAC | cpAD | cpAE | cpAH | cpAL
  | cpAMemHl | cpAA
  -- 0xC0 to 0xCF (R113)
  | retNz | popBc | pushBc | rst00 | retZ | ret | prefixCb | rst08
  -- 0xD0 to 0xDF (R113)
  | retNc | popDe | illegalD3 | pushDe | rst10 | retC | reti | illegalDB | illegalDD | rst18
  -- 0xE0 to 0xEF (R113)
  | popHl | ldMemCA | illegalE3 | illegalE4 | pushHl | rst20 | jpHl | illegalEB | illegalEC | illegalED
  | rst28
  -- 0xF0 to 0xFF (R113)
  | popAf | ldAMemC | di | illegalF4 | pushAf | rst30 | ldSpHl | ei | illegalFC | illegalFD | rst38
  -- 0xCB 0x00 to 0x0F (R114)
  | rlcB | rlcC | rlcD | rlcE | rlcH | rlcL | rlcMemHl | rlcA | rrcB | rrcC | rrcD | rrcE | rrcH | rrcL
  | rrcMemHl | rrcA
  -- 0xCB 0x10 to 0x1F (R114)
  | rlB | rlC | rlD | rlE | rlH | rlL | rlMemHl | rlA | rrB | rrC | rrD | rrE | rrH | rrL | rrMemHl | rrA
  -- 0xCB 0x20 to 0x2F (R114)
  | slaB | slaC | slaD | slaE | slaH | slaL | slaMemHl | slaA | sraB | sraC | sraD | sraE | sraH | sraL
  | sraMemHl | sraA
  -- 0xCB 0x30 to 0x3F (R114)
  | swapB | swapC | swapD | swapE | swapH | swapL | swapMemHl | swapA | srlB | srlC | srlD | srlE | srlH
  | srlL | srlMemHl | srlA
  -- 0xCB 0x40 to 0x4F (R114)
  | bit0B | bit0C | bit0D | bit0E | bit0H | bit0L | bit0MemHl | bit0A | bit1B | bit1C | bit1D | bit1E | bit1H
  | bit1L | bit1MemHl | bit1A
  -- 0xCB 0x50 to 0x5F (R114)
  | bit2B | bit2C | bit2D | bit2E | bit2H | bit2L | bit2MemHl | bit2A | bit3B | bit3C | bit3D | bit3E | bit3H
  | bit3L | bit3MemHl | bit3A
  -- 0xCB 0x60 to 0x6F (R114)
  | bit4B | bit4C | bit4D | bit4E | bit4H | bit4L | bit4MemHl | bit4A | bit5B | bit5C | bit5D | bit5E | bit5H
  | bit5L | bit5MemHl | bit5A
  -- 0xCB 0x70 to 0x7F (R114)
  | bit6B | bit6C | bit6D | bit6E | bit6H | bit6L | bit6MemHl | bit6A | bit7B | bit7C | bit7D | bit7E | bit7H
  | bit7L | bit7MemHl | bit7A
  -- 0xCB 0x80 to 0x8F (R114)
  | res0B | res0C | res0D | res0E | res0H | res0L | res0MemHl | res0A | res1B | res1C | res1D | res1E | res1H
  | res1L | res1MemHl | res1A
  -- 0xCB 0x90 to 0x9F (R114)
  | res2B | res2C | res2D | res2E | res2H | res2L | res2MemHl | res2A | res3B | res3C | res3D | res3E | res3H
  | res3L | res3MemHl | res3A
  -- 0xCB 0xA0 to 0xAF (R114)
  | res4B | res4C | res4D | res4E | res4H | res4L | res4MemHl | res4A | res5B | res5C | res5D | res5E | res5H
  | res5L | res5MemHl | res5A
  -- 0xCB 0xB0 to 0xBF (R114)
  | res6B | res6C | res6D | res6E | res6H | res6L | res6MemHl | res6A | res7B | res7C | res7D | res7E | res7H
  | res7L | res7MemHl | res7A
  -- 0xCB 0xC0 to 0xCF (R114)
  | set0B | set0C | set0D | set0E | set0H | set0L | set0MemHl | set0A | set1B | set1C | set1D | set1E | set1H
  | set1L | set1MemHl | set1A
  -- 0xCB 0xD0 to 0xDF (R114)
  | set2B | set2C | set2D | set2E | set2H | set2L | set2MemHl | set2A | set3B | set3C | set3D | set3E | set3H
  | set3L | set3MemHl | set3A
  -- 0xCB 0xE0 to 0xEF (R114)
  | set4B | set4C | set4D | set4E | set4H | set4L | set4MemHl | set4A | set5B | set5C | set5D | set5E | set5H
  | set5L | set5MemHl | set5A
  -- 0xCB 0xF0 to 0xFF (R114)
  | set6B | set6C | set6D | set6E | set6H | set6L | set6MemHl | set6A | set7B | set7C | set7D | set7E | set7H
  | set7L | set7MemHl | set7A
  deriving DecidableEq, Repr

/-- The kind of an instruction object, its operand codes and immediates bound (10_state.md R28). -/
inductive Kind where
  -- 45_system.md R300 to R306
  | nop | halt | stop | di | ei | illegal (op : Byte) | prefixCb
  -- 43_loads.md R230 to R248
  | ldRR (dst src : R8) | ldRN (dst : R8) (n : Byte) | ldRMemHl (dst : R8) | ldMemHlR (src : R8) | ldMemHlN (n : Byte)
  | ldAInd (m : Ptr) | ldIndA (m : Ptr) | ldAAbs (nn : Word) | ldAbsA (nn : Word)
  | ldhAN (n : Byte) | ldhNA (n : Byte) | ldAMemC | ldMemCA
  | ldRRN (p : R16) (nn : Word) | ldAbsSp (nn : Word) | ldSpHl | ldHlSpE (e : Byte)
  -- 43_loads.md R249, R250
  | push (q : R16Stk) | pop (q : R16Stk)
  -- 41_alu.md R162 to R170
  | aluR (o : AluOp) (r : R8) | aluMemHl (o : AluOp) | aluN (o : AluOp) (n : Byte)
  -- 41_alu.md R171 to R180
  | incR (r : R8) | incMemHl | decR (r : R8) | decMemHl | incRR (p : R16) | decRR (p : R16)
  | addHl (p : R16) | addSp (e : Byte) | daa | cpl | scf | ccf
  -- 42_rotate_shift_bit.md R200 to R216
  | rotA (k : RotOp) | rotR (k : RotOp) (r : R8) | rotMemHl (k : RotOp)
  | bitR (b : Fin 8) (r : R8) | bitMemHl (b : Fin 8) | resR (b : Fin 8) (r : R8) | resMemHl (b : Fin 8)
  | setR (b : Fin 8) (r : R8) | setMemHl (b : Fin 8)
  -- 44_control_flow.md R271 to R281
  | jp (nn : Word) | jpCc (cc : Cond) (nn : Word) | jpHl | jr (e : Byte) | jrCc (cc : Cond) (e : Byte)
  | call (nn : Word) | callCc (cc : Cond) (nn : Word) | ret | retCc (cc : Cond) | reti | rst (t : Fin 8)
  deriving DecidableEq, Repr

end Sys2Proof
end

