-- ==== Sys2Proof/WellFormed.lean ====
section
/-! DEFINITION. Well-formedness of syntax. Every operand of `Instr` has the exact width the encoding gives it, so every
term of `Instr` is an instruction (spec 30_encoding.md R111: the decoder is total). A `Kind` can be a term that stands
for no instruction; those are checked here. -/

namespace Sys2Proof

/-- The eleven unassigned opcodes (30_encoding.md R110). -/
def unassignedOpcodes : List Byte :=
  [0xD3, 0xDB, 0xDD, 0xE3, 0xE4, 0xEB, 0xEC, 0xED, 0xF4, 0xFC, 0xFD]

/-- An accumulator rotate is RLCA, RRCA, RLA or RRA: k is 0 to 3 (42_rotate_shift_bit.md R200 to R203). -/
def RotOp.isAccumulatorRotate : RotOp → Bool
  | .rlc | .rrc | .rl | .rr => true
  | .sla | .sra | .swap | .srl => false

/-- The kind is that of some instruction: an `illegal` kind holds an unassigned opcode (R110), and an accumulator
rotate has one of its four codes (R200 to R203). Any other kind is, at every operand (R103 to R109). -/
def Kind.wellFormed : Kind → Bool
  | .illegal op => unassignedOpcodes.contains op
  | .rotA k => k.isAccumulatorRotate
  | _ => true

/-- Every term of `Instr` is well formed: its operands range over exactly the values the encoding admits (R106). -/
def Instr.wellFormed (_ : Instr) : Bool := true

end Sys2Proof
end

