-- ==== Sys2Proof/Decode.lean ====
section
/-! DEFINITION. The decoder, total on any bytes, written from the maps of spec 30_encoding.md R113 and R114; the encoder,
written from the same maps; and the kind each instruction's object has (R101 to R109, R111). -/

namespace Sys2Proof

/-- The low byte of a 16-bit value, `v[7:0]` (00_scope.md R6). -/
def loByte (w : Word) : Byte := w.setWidth 8

/-- The high byte of a 16-bit value, `v[15:8]`. -/
def hiByte (w : Word) : Byte := (w >>> 8).setWidth 8

/-- `hi:lo`, the 16-bit value of two bytes, high byte on the left (00_scope.md R6). -/
def joinBytes (hi lo : Byte) : Word := hi ++ lo

/-- One entry of the unprefixed map: the instruction, with the immediate bytes it still needs (R100). -/
inductive Entry where
  | op (i : Instr)              -- format F1
  | op8 (mk : Byte → Instr)     -- format F2: one immediate byte
  | op16 (mk : Word → Instr)    -- format F3: two immediate bytes, low byte first
  | cbPrefix                    -- 0xCB: one CB-table byte follows (R112)

/-! ### The unprefixed map (R113), one list per row -/

/-- Row 0x0x of the unprefixed map (R113). -/
def opcodeRow0 : List Entry :=
  [.op .nop, .op16 .ldBcN16, .op .ldMemBcA, .op .incBc, .op .incB, .op .decB, .op8 .ldBN8, .op .rlca,
   .op16 .ldMemN16Sp, .op .addHlBc, .op .ldAMemBc, .op .decBc, .op .incC, .op .decC, .op8 .ldCN8, .op .rrca]

/-- Row 0x1x of the unprefixed map (R113). -/
def opcodeRow1 : List Entry :=
  [.op .stop, .op16 .ldDeN16, .op .ldMemDeA, .op .incDe, .op .incD, .op .decD, .op8 .ldDN8, .op .rla,
   .op8 .jrE8, .op .addHlDe, .op .ldAMemDe, .op .decDe, .op .incE, .op .decE, .op8 .ldEN8, .op .rra]

/-- Row 0x2x of the unprefixed map (R113). -/
def opcodeRow2 : List Entry :=
  [.op8 .jrNzE8, .op16 .ldHlN16, .op .ldMemHlIncA, .op .incHl, .op .incH, .op .decH, .op8 .ldHN8, .op .daa,
   .op8 .jrZE8, .op .addHlHl, .op .ldAMemHlInc, .op .decHl, .op .incL, .op .decL, .op8 .ldLN8, .op .cpl]

/-- Row 0x3x of the unprefixed map (R113). -/
def opcodeRow3 : List Entry :=
  [.op8 .jrNcE8, .op16 .ldSpN16, .op .ldMemHlDecA, .op .incSp, .op .incMemHl, .op .decMemHl, .op8 .ldMemHlN8,
   .op .scf, .op8 .jrCE8, .op .addHlSp, .op .ldAMemHlDec, .op .decSp, .op .incA, .op .decA, .op8 .ldAN8,
   .op .ccf]

/-- Row 0x4x of the unprefixed map (R113). -/
def opcodeRow4 : List Entry :=
  [.op .ldBB, .op .ldBC, .op .ldBD, .op .ldBE, .op .ldBH, .op .ldBL, .op .ldBMemHl, .op .ldBA, .op .ldCB,
   .op .ldCC, .op .ldCD, .op .ldCE, .op .ldCH, .op .ldCL, .op .ldCMemHl, .op .ldCA]

/-- Row 0x5x of the unprefixed map (R113). -/
def opcodeRow5 : List Entry :=
  [.op .ldDB, .op .ldDC, .op .ldDD, .op .ldDE, .op .ldDH, .op .ldDL, .op .ldDMemHl, .op .ldDA, .op .ldEB,
   .op .ldEC, .op .ldED, .op .ldEE, .op .ldEH, .op .ldEL, .op .ldEMemHl, .op .ldEA]

/-- Row 0x6x of the unprefixed map (R113). -/
def opcodeRow6 : List Entry :=
  [.op .ldHB, .op .ldHC, .op .ldHD, .op .ldHE, .op .ldHH, .op .ldHL, .op .ldHMemHl, .op .ldHA, .op .ldLB,
   .op .ldLC, .op .ldLD, .op .ldLE, .op .ldLH, .op .ldLL, .op .ldLMemHl, .op .ldLA]

/-- Row 0x7x of the unprefixed map (R113). -/
def opcodeRow7 : List Entry :=
  [.op .ldMemHlB, .op .ldMemHlC, .op .ldMemHlD, .op .ldMemHlE, .op .ldMemHlH, .op .ldMemHlL, .op .halt,
   .op .ldMemHlA, .op .ldAB, .op .ldAC, .op .ldAD, .op .ldAE, .op .ldAH, .op .ldAL, .op .ldAMemHl, .op .ldAA]

/-- Row 0x8x of the unprefixed map (R113). -/
def opcodeRow8 : List Entry :=
  [.op .addAB, .op .addAC, .op .addAD, .op .addAE, .op .addAH, .op .addAL, .op .addAMemHl, .op .addAA,
   .op .adcAB, .op .adcAC, .op .adcAD, .op .adcAE, .op .adcAH, .op .adcAL, .op .adcAMemHl, .op .adcAA]

/-- Row 0x9x of the unprefixed map (R113). -/
def opcodeRow9 : List Entry :=
  [.op .subAB, .op .subAC, .op .subAD, .op .subAE, .op .subAH, .op .subAL, .op .subAMemHl, .op .subAA,
   .op .sbcAB, .op .sbcAC, .op .sbcAD, .op .sbcAE, .op .sbcAH, .op .sbcAL, .op .sbcAMemHl, .op .sbcAA]

/-- Row 0xAx of the unprefixed map (R113). -/
def opcodeRowA : List Entry :=
  [.op .andAB, .op .andAC, .op .andAD, .op .andAE, .op .andAH, .op .andAL, .op .andAMemHl, .op .andAA,
   .op .xorAB, .op .xorAC, .op .xorAD, .op .xorAE, .op .xorAH, .op .xorAL, .op .xorAMemHl, .op .xorAA]

/-- Row 0xBx of the unprefixed map (R113). -/
def opcodeRowB : List Entry :=
  [.op .orAB, .op .orAC, .op .orAD, .op .orAE, .op .orAH, .op .orAL, .op .orAMemHl, .op .orAA, .op .cpAB,
   .op .cpAC, .op .cpAD, .op .cpAE, .op .cpAH, .op .cpAL, .op .cpAMemHl, .op .cpAA]

/-- Row 0xCx of the unprefixed map (R113). -/
def opcodeRowC : List Entry :=
  [.op .retNz, .op .popBc, .op16 .jpNzN16, .op16 .jpN16, .op16 .callNzN16, .op .pushBc, .op8 .addAN8,
   .op .rst00, .op .retZ, .op .ret, .op16 .jpZN16, .cbPrefix, .op16 .callZN16, .op16 .callN16, .op8 .adcAN8,
   .op .rst08]

/-- Row 0xDx of the unprefixed map (R113). -/
def opcodeRowD : List Entry :=
  [.op .retNc, .op .popDe, .op16 .jpNcN16, .op .illegalD3, .op16 .callNcN16, .op .pushDe, .op8 .subAN8,
   .op .rst10, .op .retC, .op .reti, .op16 .jpCN16, .op .illegalDB, .op16 .callCN16, .op .illegalDD,
   .op8 .sbcAN8, .op .rst18]

/-- Row 0xEx of the unprefixed map (R113). -/
def opcodeRowE : List Entry :=
  [.op8 .ldhMemN8A, .op .popHl, .op .ldMemCA, .op .illegalE3, .op .illegalE4, .op .pushHl, .op8 .andAN8,
   .op .rst20, .op8 .addSpE8, .op .jpHl, .op16 .ldMemN16A, .op .illegalEB, .op .illegalEC, .op .illegalED,
   .op8 .xorAN8, .op .rst28]

/-- Row 0xFx of the unprefixed map (R113). -/
def opcodeRowF : List Entry :=
  [.op8 .ldhAMemN8, .op .popAf, .op .ldAMemC, .op .di, .op .illegalF4, .op .pushAf, .op8 .orAN8, .op .rst30,
   .op8 .ldHlSpE8, .op .ldSpHl, .op16 .ldAMemN16, .op .ei, .op .illegalFC, .op .illegalFD, .op8 .cpAN8,
   .op .rst38]

/-- The rows of the unprefixed map by high nibble (R113). -/
def opcodeRow : Nat → List Entry
  | 0 => opcodeRow0
  | 1 => opcodeRow1
  | 2 => opcodeRow2
  | 3 => opcodeRow3
  | 4 => opcodeRow4
  | 5 => opcodeRow5
  | 6 => opcodeRow6
  | 7 => opcodeRow7
  | 8 => opcodeRow8
  | 9 => opcodeRow9
  | 10 => opcodeRowA
  | 11 => opcodeRowB
  | 12 => opcodeRowC
  | 13 => opcodeRowD
  | 14 => opcodeRowE
  | _ => opcodeRowF

/-- `decode_opcode`: defined for all 256 bytes, it reads no register (R111). -/
def decodeOpcode (op : Byte) : Entry := (opcodeRow (op.toNat / 16)).getD (op.toNat % 16) (.op .nop)

/-! ### The CB-prefixed map (R114), one list per row -/

/-- Row 0x0x of the CB map (R114). -/
def cbRow0 : List Instr :=
  [.rlcB, .rlcC, .rlcD, .rlcE, .rlcH, .rlcL, .rlcMemHl, .rlcA, .rrcB, .rrcC, .rrcD, .rrcE, .rrcH, .rrcL,
   .rrcMemHl, .rrcA]

/-- Row 0x1x of the CB map (R114). -/
def cbRow1 : List Instr :=
  [.rlB, .rlC, .rlD, .rlE, .rlH, .rlL, .rlMemHl, .rlA, .rrB, .rrC, .rrD, .rrE, .rrH, .rrL, .rrMemHl, .rrA]

/-- Row 0x2x of the CB map (R114). -/
def cbRow2 : List Instr :=
  [.slaB, .slaC, .slaD, .slaE, .slaH, .slaL, .slaMemHl, .slaA, .sraB, .sraC, .sraD, .sraE, .sraH, .sraL,
   .sraMemHl, .sraA]

/-- Row 0x3x of the CB map (R114). -/
def cbRow3 : List Instr :=
  [.swapB, .swapC, .swapD, .swapE, .swapH, .swapL, .swapMemHl, .swapA, .srlB, .srlC, .srlD, .srlE, .srlH,
   .srlL, .srlMemHl, .srlA]

/-- Row 0x4x of the CB map (R114). -/
def cbRow4 : List Instr :=
  [.bit0B, .bit0C, .bit0D, .bit0E, .bit0H, .bit0L, .bit0MemHl, .bit0A, .bit1B, .bit1C, .bit1D, .bit1E,
   .bit1H, .bit1L, .bit1MemHl, .bit1A]

/-- Row 0x5x of the CB map (R114). -/
def cbRow5 : List Instr :=
  [.bit2B, .bit2C, .bit2D, .bit2E, .bit2H, .bit2L, .bit2MemHl, .bit2A, .bit3B, .bit3C, .bit3D, .bit3E,
   .bit3H, .bit3L, .bit3MemHl, .bit3A]

/-- Row 0x6x of the CB map (R114). -/
def cbRow6 : List Instr :=
  [.bit4B, .bit4C, .bit4D, .bit4E, .bit4H, .bit4L, .bit4MemHl, .bit4A, .bit5B, .bit5C, .bit5D, .bit5E,
   .bit5H, .bit5L, .bit5MemHl, .bit5A]

/-- Row 0x7x of the CB map (R114). -/
def cbRow7 : List Instr :=
  [.bit6B, .bit6C, .bit6D, .bit6E, .bit6H, .bit6L, .bit6MemHl, .bit6A, .bit7B, .bit7C, .bit7D, .bit7E,
   .bit7H, .bit7L, .bit7MemHl, .bit7A]

/-- Row 0x8x of the CB map (R114). -/
def cbRow8 : List Instr :=
  [.res0B, .res0C, .res0D, .res0E, .res0H, .res0L, .res0MemHl, .res0A, .res1B, .res1C, .res1D, .res1E,
   .res1H, .res1L, .res1MemHl, .res1A]

/-- Row 0x9x of the CB map (R114). -/
def cbRow9 : List Instr :=
  [.res2B, .res2C, .res2D, .res2E, .res2H, .res2L, .res2MemHl, .res2A, .res3B, .res3C, .res3D, .res3E,
   .res3H, .res3L, .res3MemHl, .res3A]

/-- Row 0xAx of the CB map (R114). -/
def cbRowA : List Instr :=
  [.res4B, .res4C, .res4D, .res4E, .res4H, .res4L, .res4MemHl, .res4A, .res5B, .res5C, .res5D, .res5E,
   .res5H, .res5L, .res5MemHl, .res5A]

/-- Row 0xBx of the CB map (R114). -/
def cbRowB : List Instr :=
  [.res6B, .res6C, .res6D, .res6E, .res6H, .res6L, .res6MemHl, .res6A, .res7B, .res7C, .res7D, .res7E,
   .res7H, .res7L, .res7MemHl, .res7A]

/-- Row 0xCx of the CB map (R114). -/
def cbRowC : List Instr :=
  [.set0B, .set0C, .set0D, .set0E, .set0H, .set0L, .set0MemHl, .set0A, .set1B, .set1C, .set1D, .set1E,
   .set1H, .set1L, .set1MemHl, .set1A]

/-- Row 0xDx of the CB map (R114). -/
def cbRowD : List Instr :=
  [.set2B, .set2C, .set2D, .set2E, .set2H, .set2L, .set2MemHl, .set2A, .set3B, .set3C, .set3D, .set3E,
   .set3H, .set3L, .set3MemHl, .set3A]

/-- Row 0xEx of the CB map (R114). -/
def cbRowE : List Instr :=
  [.set4B, .set4C, .set4D, .set4E, .set4H, .set4L, .set4MemHl, .set4A, .set5B, .set5C, .set5D, .set5E,
   .set5H, .set5L, .set5MemHl, .set5A]

/-- Row 0xFx of the CB map (R114). -/
def cbRowF : List Instr :=
  [.set6B, .set6C, .set6D, .set6E, .set6H, .set6L, .set6MemHl, .set6A, .set7B, .set7C, .set7D, .set7E,
   .set7H, .set7L, .set7MemHl, .set7A]

/-- The rows of the CB map by high nibble (R114). -/
def cbRow : Nat → List Instr
  | 0 => cbRow0
  | 1 => cbRow1
  | 2 => cbRow2
  | 3 => cbRow3
  | 4 => cbRow4
  | 5 => cbRow5
  | 6 => cbRow6
  | 7 => cbRow7
  | 8 => cbRow8
  | 9 => cbRow9
  | 10 => cbRowA
  | 11 => cbRowB
  | 12 => cbRowC
  | 13 => cbRowD
  | 14 => cbRowE
  | _ => cbRowF

/-- `decode_opcode_prefix`: defined for all 256 bytes (R111). -/
def decodeOpcodePrefix (cb : Byte) : Instr := (cbRow (cb.toNat / 16)).getD (cb.toNat % 16) .nop

/-! ### Decoding a list of bytes -/

/-- Why a list of bytes is no instruction. Every opcode is assigned a meaning (R110, R111), so the only reason is that
bytes are missing. -/
inductive DecodeError
  | noOpcode          -- no byte at all
  | missingImmediate  -- the opcode's immediate bytes are not all there
  deriving DecidableEq, Repr

/-- The instruction at the head of a list of bytes and the bytes after it. A lone 0xCB, whose CB byte is not in hand, is
the bare trampoline `prefixCb` (45_system.md R305; log 11). STOP's second byte, if it has one, is not read (R302). -/
def decode : List Byte → Except DecodeError (Instr × List Byte)
  | [] => .error .noOpcode
  | op :: rest =>
    match decodeOpcode op, rest with
    | .op i, rest => .ok (i, rest)
    | .op8 mk, n :: rest => .ok (mk n, rest)
    | .op16 mk, lo :: hi :: rest => .ok (mk (joinBytes hi lo), rest)
    | .cbPrefix, cb :: rest => .ok (decodeOpcodePrefix cb, rest)
    | .cbPrefix, [] => .ok (.prefixCb, [])
    | .op8 _, _ => .error .missingImmediate
    | .op16 _, _ => .error .missingImmediate

/-! ### The encoder -/

/-- The bytes the instruction reads, in address order (R100, R113, R114, R106). -/
def encode : Instr → List Byte
  | .nop => [0x00]
  | .ldBcN16 nn => [0x01, loByte nn, hiByte nn]
  | .ldMemBcA => [0x02]
  | .incBc => [0x03]
  | .incB => [0x04]
  | .decB => [0x05]
  | .ldBN8 n => [0x06, n]
  | .rlca => [0x07]
  | .ldMemN16Sp nn => [0x08, loByte nn, hiByte nn]
  | .addHlBc => [0x09]
  | .ldAMemBc => [0x0A]
  | .decBc => [0x0B]
  | .incC => [0x0C]
  | .decC => [0x0D]
  | .ldCN8 n => [0x0E, n]
  | .rrca => [0x0F]
  | .stop => [0x10]
  | .ldDeN16 nn => [0x11, loByte nn, hiByte nn]
  | .ldMemDeA => [0x12]
  | .incDe => [0x13]
  | .incD => [0x14]
  | .decD => [0x15]
  | .ldDN8 n => [0x16, n]
  | .rla => [0x17]
  | .jrE8 e => [0x18, e]
  | .addHlDe => [0x19]
  | .ldAMemDe => [0x1A]
  | .decDe => [0x1B]
  | .incE => [0x1C]
  | .decE => [0x1D]
  | .ldEN8 n => [0x1E, n]
  | .rra => [0x1F]
  | .jrNzE8 e => [0x20, e]
  | .ldHlN16 nn => [0x21, loByte nn, hiByte nn]
  | .ldMemHlIncA => [0x22]
  | .incHl => [0x23]
  | .incH => [0x24]
  | .decH => [0x25]
  | .ldHN8 n => [0x26, n]
  | .daa => [0x27]
  | .jrZE8 e => [0x28, e]
  | .addHlHl => [0x29]
  | .ldAMemHlInc => [0x2A]
  | .decHl => [0x2B]
  | .incL => [0x2C]
  | .decL => [0x2D]
  | .ldLN8 n => [0x2E, n]
  | .cpl => [0x2F]
  | .jrNcE8 e => [0x30, e]
  | .ldSpN16 nn => [0x31, loByte nn, hiByte nn]
  | .ldMemHlDecA => [0x32]
  | .incSp => [0x33]
  | .incMemHl => [0x34]
  | .decMemHl => [0x35]
  | .ldMemHlN8 n => [0x36, n]
  | .scf => [0x37]
  | .jrCE8 e => [0x38, e]
  | .addHlSp => [0x39]
  | .ldAMemHlDec => [0x3A]
  | .decSp => [0x3B]
  | .incA => [0x3C]
  | .decA => [0x3D]
  | .ldAN8 n => [0x3E, n]
  | .ccf => [0x3F]
  | .ldBB => [0x40]
  | .ldBC => [0x41]
  | .ldBD => [0x42]
  | .ldBE => [0x43]
  | .ldBH => [0x44]
  | .ldBL => [0x45]
  | .ldBMemHl => [0x46]
  | .ldBA => [0x47]
  | .ldCB => [0x48]
  | .ldCC => [0x49]
  | .ldCD => [0x4A]
  | .ldCE => [0x4B]
  | .ldCH => [0x4C]
  | .ldCL => [0x4D]
  | .ldCMemHl => [0x4E]
  | .ldCA => [0x4F]
  | .ldDB => [0x50]
  | .ldDC => [0x51]
  | .ldDD => [0x52]
  | .ldDE => [0x53]
  | .ldDH => [0x54]
  | .ldDL => [0x55]
  | .ldDMemHl => [0x56]
  | .ldDA => [0x57]
  | .ldEB => [0x58]
  | .ldEC => [0x59]
  | .ldED => [0x5A]
  | .ldEE => [0x5B]
  | .ldEH => [0x5C]
  | .ldEL => [0x5D]
  | .ldEMemHl => [0x5E]
  | .ldEA => [0x5F]
  | .ldHB => [0x60]
  | .ldHC => [0x61]
  | .ldHD => [0x62]
  | .ldHE => [0x63]
  | .ldHH => [0x64]
  | .ldHL => [0x65]
  | .ldHMemHl => [0x66]
  | .ldHA => [0x67]
  | .ldLB => [0x68]
  | .ldLC => [0x69]
  | .ldLD => [0x6A]
  | .ldLE => [0x6B]
  | .ldLH => [0x6C]
  | .ldLL => [0x6D]
  | .ldLMemHl => [0x6E]
  | .ldLA => [0x6F]
  | .ldMemHlB => [0x70]
  | .ldMemHlC => [0x71]
  | .ldMemHlD => [0x72]
  | .ldMemHlE => [0x73]
  | .ldMemHlH => [0x74]
  | .ldMemHlL => [0x75]
  | .halt => [0x76]
  | .ldMemHlA => [0x77]
  | .ldAB => [0x78]
  | .ldAC => [0x79]
  | .ldAD => [0x7A]
  | .ldAE => [0x7B]
  | .ldAH => [0x7C]
  | .ldAL => [0x7D]
  | .ldAMemHl => [0x7E]
  | .ldAA => [0x7F]
  | .addAB => [0x80]
  | .addAC => [0x81]
  | .addAD => [0x82]
  | .addAE => [0x83]
  | .addAH => [0x84]
  | .addAL => [0x85]
  | .addAMemHl => [0x86]
  | .addAA => [0x87]
  | .adcAB => [0x88]
  | .adcAC => [0x89]
  | .adcAD => [0x8A]
  | .adcAE => [0x8B]
  | .adcAH => [0x8C]
  | .adcAL => [0x8D]
  | .adcAMemHl => [0x8E]
  | .adcAA => [0x8F]
  | .subAB => [0x90]
  | .subAC => [0x91]
  | .subAD => [0x92]
  | .subAE => [0x93]
  | .subAH => [0x94]
  | .subAL => [0x95]
  | .subAMemHl => [0x96]
  | .subAA => [0x97]
  | .sbcAB => [0x98]
  | .sbcAC => [0x99]
  | .sbcAD => [0x9A]
  | .sbcAE => [0x9B]
  | .sbcAH => [0x9C]
  | .sbcAL => [0x9D]
  | .sbcAMemHl => [0x9E]
  | .sbcAA => [0x9F]
  | .andAB => [0xA0]
  | .andAC => [0xA1]
  | .andAD => [0xA2]
  | .andAE => [0xA3]
  | .andAH => [0xA4]
  | .andAL => [0xA5]
  | .andAMemHl => [0xA6]
  | .andAA => [0xA7]
  | .xorAB => [0xA8]
  | .xorAC => [0xA9]
  | .xorAD => [0xAA]
  | .xorAE => [0xAB]
  | .xorAH => [0xAC]
  | .xorAL => [0xAD]
  | .xorAMemHl => [0xAE]
  | .xorAA => [0xAF]
  | .orAB => [0xB0]
  | .orAC => [0xB1]
  | .orAD => [0xB2]
  | .orAE => [0xB3]
  | .orAH => [0xB4]
  | .orAL => [0xB5]
  | .orAMemHl => [0xB6]
  | .orAA => [0xB7]
  | .cpAB => [0xB8]
  | .cpAC => [0xB9]
  | .cpAD => [0xBA]
  | .cpAE => [0xBB]
  | .cpAH => [0xBC]
  | .cpAL => [0xBD]
  | .cpAMemHl => [0xBE]
  | .cpAA => [0xBF]
  | .retNz => [0xC0]
  | .popBc => [0xC1]
  | .jpNzN16 nn => [0xC2, loByte nn, hiByte nn]
  | .jpN16 nn => [0xC3, loByte nn, hiByte nn]
  | .callNzN16 nn => [0xC4, loByte nn, hiByte nn]
  | .pushBc => [0xC5]
  | .addAN8 n => [0xC6, n]
  | .rst00 => [0xC7]
  | .retZ => [0xC8]
  | .ret => [0xC9]
  | .jpZN16 nn => [0xCA, loByte nn, hiByte nn]
  | .prefixCb => [0xCB]
  | .callZN16 nn => [0xCC, loByte nn, hiByte nn]
  | .callN16 nn => [0xCD, loByte nn, hiByte nn]
  | .adcAN8 n => [0xCE, n]
  | .rst08 => [0xCF]
  | .retNc => [0xD0]
  | .popDe => [0xD1]
  | .jpNcN16 nn => [0xD2, loByte nn, hiByte nn]
  | .illegalD3 => [0xD3]
  | .callNcN16 nn => [0xD4, loByte nn, hiByte nn]
  | .pushDe => [0xD5]
  | .subAN8 n => [0xD6, n]
  | .rst10 => [0xD7]
  | .retC => [0xD8]
  | .reti => [0xD9]
  | .jpCN16 nn => [0xDA, loByte nn, hiByte nn]
  | .illegalDB => [0xDB]
  | .callCN16 nn => [0xDC, loByte nn, hiByte nn]
  | .illegalDD => [0xDD]
  | .sbcAN8 n => [0xDE, n]
  | .rst18 => [0xDF]
  | .ldhMemN8A n => [0xE0, n]
  | .popHl => [0xE1]
  | .ldMemCA => [0xE2]
  | .illegalE3 => [0xE3]
  | .illegalE4 => [0xE4]
  | .pushHl => [0xE5]
  | .andAN8 n => [0xE6, n]
  | .rst20 => [0xE7]
  | .addSpE8 e => [0xE8, e]
  | .jpHl => [0xE9]
  | .ldMemN16A nn => [0xEA, loByte nn, hiByte nn]
  | .illegalEB => [0xEB]
  | .illegalEC => [0xEC]
  | .illegalED => [0xED]
  | .xorAN8 n => [0xEE, n]
  | .rst28 => [0xEF]
  | .ldhAMemN8 n => [0xF0, n]
  | .popAf => [0xF1]
  | .ldAMemC => [0xF2]
  | .di => [0xF3]
  | .illegalF4 => [0xF4]
  | .pushAf => [0xF5]
  | .orAN8 n => [0xF6, n]
  | .rst30 => [0xF7]
  | .ldHlSpE8 e => [0xF8, e]
  | .ldSpHl => [0xF9]
  | .ldAMemN16 nn => [0xFA, loByte nn, hiByte nn]
  | .ei => [0xFB]
  | .illegalFC => [0xFC]
  | .illegalFD => [0xFD]
  | .cpAN8 n => [0xFE, n]
  | .rst38 => [0xFF]
  | .rlcB => [0xCB, 0x00]
  | .rlcC => [0xCB, 0x01]
  | .rlcD => [0xCB, 0x02]
  | .rlcE => [0xCB, 0x03]
  | .rlcH => [0xCB, 0x04]
  | .rlcL => [0xCB, 0x05]
  | .rlcMemHl => [0xCB, 0x06]
  | .rlcA => [0xCB, 0x07]
  | .rrcB => [0xCB, 0x08]
  | .rrcC => [0xCB, 0x09]
  | .rrcD => [0xCB, 0x0A]
  | .rrcE => [0xCB, 0x0B]
  | .rrcH => [0xCB, 0x0C]
  | .rrcL => [0xCB, 0x0D]
  | .rrcMemHl => [0xCB, 0x0E]
  | .rrcA => [0xCB, 0x0F]
  | .rlB => [0xCB, 0x10]
  | .rlC => [0xCB, 0x11]
  | .rlD => [0xCB, 0x12]
  | .rlE => [0xCB, 0x13]
  | .rlH => [0xCB, 0x14]
  | .rlL => [0xCB, 0x15]
  | .rlMemHl => [0xCB, 0x16]
  | .rlA => [0xCB, 0x17]
  | .rrB => [0xCB, 0x18]
  | .rrC => [0xCB, 0x19]
  | .rrD => [0xCB, 0x1A]
  | .rrE => [0xCB, 0x1B]
  | .rrH => [0xCB, 0x1C]
  | .rrL => [0xCB, 0x1D]
  | .rrMemHl => [0xCB, 0x1E]
  | .rrA => [0xCB, 0x1F]
  | .slaB => [0xCB, 0x20]
  | .slaC => [0xCB, 0x21]
  | .slaD => [0xCB, 0x22]
  | .slaE => [0xCB, 0x23]
  | .slaH => [0xCB, 0x24]
  | .slaL => [0xCB, 0x25]
  | .slaMemHl => [0xCB, 0x26]
  | .slaA => [0xCB, 0x27]
  | .sraB => [0xCB, 0x28]
  | .sraC => [0xCB, 0x29]
  | .sraD => [0xCB, 0x2A]
  | .sraE => [0xCB, 0x2B]
  | .sraH => [0xCB, 0x2C]
  | .sraL => [0xCB, 0x2D]
  | .sraMemHl => [0xCB, 0x2E]
  | .sraA => [0xCB, 0x2F]
  | .swapB => [0xCB, 0x30]
  | .swapC => [0xCB, 0x31]
  | .swapD => [0xCB, 0x32]
  | .swapE => [0xCB, 0x33]
  | .swapH => [0xCB, 0x34]
  | .swapL => [0xCB, 0x35]
  | .swapMemHl => [0xCB, 0x36]
  | .swapA => [0xCB, 0x37]
  | .srlB => [0xCB, 0x38]
  | .srlC => [0xCB, 0x39]
  | .srlD => [0xCB, 0x3A]
  | .srlE => [0xCB, 0x3B]
  | .srlH => [0xCB, 0x3C]
  | .srlL => [0xCB, 0x3D]
  | .srlMemHl => [0xCB, 0x3E]
  | .srlA => [0xCB, 0x3F]
  | .bit0B => [0xCB, 0x40]
  | .bit0C => [0xCB, 0x41]
  | .bit0D => [0xCB, 0x42]
  | .bit0E => [0xCB, 0x43]
  | .bit0H => [0xCB, 0x44]
  | .bit0L => [0xCB, 0x45]
  | .bit0MemHl => [0xCB, 0x46]
  | .bit0A => [0xCB, 0x47]
  | .bit1B => [0xCB, 0x48]
  | .bit1C => [0xCB, 0x49]
  | .bit1D => [0xCB, 0x4A]
  | .bit1E => [0xCB, 0x4B]
  | .bit1H => [0xCB, 0x4C]
  | .bit1L => [0xCB, 0x4D]
  | .bit1MemHl => [0xCB, 0x4E]
  | .bit1A => [0xCB, 0x4F]
  | .bit2B => [0xCB, 0x50]
  | .bit2C => [0xCB, 0x51]
  | .bit2D => [0xCB, 0x52]
  | .bit2E => [0xCB, 0x53]
  | .bit2H => [0xCB, 0x54]
  | .bit2L => [0xCB, 0x55]
  | .bit2MemHl => [0xCB, 0x56]
  | .bit2A => [0xCB, 0x57]
  | .bit3B => [0xCB, 0x58]
  | .bit3C => [0xCB, 0x59]
  | .bit3D => [0xCB, 0x5A]
  | .bit3E => [0xCB, 0x5B]
  | .bit3H => [0xCB, 0x5C]
  | .bit3L => [0xCB, 0x5D]
  | .bit3MemHl => [0xCB, 0x5E]
  | .bit3A => [0xCB, 0x5F]
  | .bit4B => [0xCB, 0x60]
  | .bit4C => [0xCB, 0x61]
  | .bit4D => [0xCB, 0x62]
  | .bit4E => [0xCB, 0x63]
  | .bit4H => [0xCB, 0x64]
  | .bit4L => [0xCB, 0x65]
  | .bit4MemHl => [0xCB, 0x66]
  | .bit4A => [0xCB, 0x67]
  | .bit5B => [0xCB, 0x68]
  | .bit5C => [0xCB, 0x69]
  | .bit5D => [0xCB, 0x6A]
  | .bit5E => [0xCB, 0x6B]
  | .bit5H => [0xCB, 0x6C]
  | .bit5L => [0xCB, 0x6D]
  | .bit5MemHl => [0xCB, 0x6E]
  | .bit5A => [0xCB, 0x6F]
  | .bit6B => [0xCB, 0x70]
  | .bit6C => [0xCB, 0x71]
  | .bit6D => [0xCB, 0x72]
  | .bit6E => [0xCB, 0x73]
  | .bit6H => [0xCB, 0x74]
  | .bit6L => [0xCB, 0x75]
  | .bit6MemHl => [0xCB, 0x76]
  | .bit6A => [0xCB, 0x77]
  | .bit7B => [0xCB, 0x78]
  | .bit7C => [0xCB, 0x79]
  | .bit7D => [0xCB, 0x7A]
  | .bit7E => [0xCB, 0x7B]
  | .bit7H => [0xCB, 0x7C]
  | .bit7L => [0xCB, 0x7D]
  | .bit7MemHl => [0xCB, 0x7E]
  | .bit7A => [0xCB, 0x7F]
  | .res0B => [0xCB, 0x80]
  | .res0C => [0xCB, 0x81]
  | .res0D => [0xCB, 0x82]
  | .res0E => [0xCB, 0x83]
  | .res0H => [0xCB, 0x84]
  | .res0L => [0xCB, 0x85]
  | .res0MemHl => [0xCB, 0x86]
  | .res0A => [0xCB, 0x87]
  | .res1B => [0xCB, 0x88]
  | .res1C => [0xCB, 0x89]
  | .res1D => [0xCB, 0x8A]
  | .res1E => [0xCB, 0x8B]
  | .res1H => [0xCB, 0x8C]
  | .res1L => [0xCB, 0x8D]
  | .res1MemHl => [0xCB, 0x8E]
  | .res1A => [0xCB, 0x8F]
  | .res2B => [0xCB, 0x90]
  | .res2C => [0xCB, 0x91]
  | .res2D => [0xCB, 0x92]
  | .res2E => [0xCB, 0x93]
  | .res2H => [0xCB, 0x94]
  | .res2L => [0xCB, 0x95]
  | .res2MemHl => [0xCB, 0x96]
  | .res2A => [0xCB, 0x97]
  | .res3B => [0xCB, 0x98]
  | .res3C => [0xCB, 0x99]
  | .res3D => [0xCB, 0x9A]
  | .res3E => [0xCB, 0x9B]
  | .res3H => [0xCB, 0x9C]
  | .res3L => [0xCB, 0x9D]
  | .res3MemHl => [0xCB, 0x9E]
  | .res3A => [0xCB, 0x9F]
  | .res4B => [0xCB, 0xA0]
  | .res4C => [0xCB, 0xA1]
  | .res4D => [0xCB, 0xA2]
  | .res4E => [0xCB, 0xA3]
  | .res4H => [0xCB, 0xA4]
  | .res4L => [0xCB, 0xA5]
  | .res4MemHl => [0xCB, 0xA6]
  | .res4A => [0xCB, 0xA7]
  | .res5B => [0xCB, 0xA8]
  | .res5C => [0xCB, 0xA9]
  | .res5D => [0xCB, 0xAA]
  | .res5E => [0xCB, 0xAB]
  | .res5H => [0xCB, 0xAC]
  | .res5L => [0xCB, 0xAD]
  | .res5MemHl => [0xCB, 0xAE]
  | .res5A => [0xCB, 0xAF]
  | .res6B => [0xCB, 0xB0]
  | .res6C => [0xCB, 0xB1]
  | .res6D => [0xCB, 0xB2]
  | .res6E => [0xCB, 0xB3]
  | .res6H => [0xCB, 0xB4]
  | .res6L => [0xCB, 0xB5]
  | .res6MemHl => [0xCB, 0xB6]
  | .res6A => [0xCB, 0xB7]
  | .res7B => [0xCB, 0xB8]
  | .res7C => [0xCB, 0xB9]
  | .res7D => [0xCB, 0xBA]
  | .res7E => [0xCB, 0xBB]
  | .res7H => [0xCB, 0xBC]
  | .res7L => [0xCB, 0xBD]
  | .res7MemHl => [0xCB, 0xBE]
  | .res7A => [0xCB, 0xBF]
  | .set0B => [0xCB, 0xC0]
  | .set0C => [0xCB, 0xC1]
  | .set0D => [0xCB, 0xC2]
  | .set0E => [0xCB, 0xC3]
  | .set0H => [0xCB, 0xC4]
  | .set0L => [0xCB, 0xC5]
  | .set0MemHl => [0xCB, 0xC6]
  | .set0A => [0xCB, 0xC7]
  | .set1B => [0xCB, 0xC8]
  | .set1C => [0xCB, 0xC9]
  | .set1D => [0xCB, 0xCA]
  | .set1E => [0xCB, 0xCB]
  | .set1H => [0xCB, 0xCC]
  | .set1L => [0xCB, 0xCD]
  | .set1MemHl => [0xCB, 0xCE]
  | .set1A => [0xCB, 0xCF]
  | .set2B => [0xCB, 0xD0]
  | .set2C => [0xCB, 0xD1]
  | .set2D => [0xCB, 0xD2]
  | .set2E => [0xCB, 0xD3]
  | .set2H => [0xCB, 0xD4]
  | .set2L => [0xCB, 0xD5]
  | .set2MemHl => [0xCB, 0xD6]
  | .set2A => [0xCB, 0xD7]
  | .set3B => [0xCB, 0xD8]
  | .set3C => [0xCB, 0xD9]
  | .set3D => [0xCB, 0xDA]
  | .set3E => [0xCB, 0xDB]
  | .set3H => [0xCB, 0xDC]
  | .set3L => [0xCB, 0xDD]
  | .set3MemHl => [0xCB, 0xDE]
  | .set3A => [0xCB, 0xDF]
  | .set4B => [0xCB, 0xE0]
  | .set4C => [0xCB, 0xE1]
  | .set4D => [0xCB, 0xE2]
  | .set4E => [0xCB, 0xE3]
  | .set4H => [0xCB, 0xE4]
  | .set4L => [0xCB, 0xE5]
  | .set4MemHl => [0xCB, 0xE6]
  | .set4A => [0xCB, 0xE7]
  | .set5B => [0xCB, 0xE8]
  | .set5C => [0xCB, 0xE9]
  | .set5D => [0xCB, 0xEA]
  | .set5E => [0xCB, 0xEB]
  | .set5H => [0xCB, 0xEC]
  | .set5L => [0xCB, 0xED]
  | .set5MemHl => [0xCB, 0xEE]
  | .set5A => [0xCB, 0xEF]
  | .set6B => [0xCB, 0xF0]
  | .set6C => [0xCB, 0xF1]
  | .set6D => [0xCB, 0xF2]
  | .set6E => [0xCB, 0xF3]
  | .set6H => [0xCB, 0xF4]
  | .set6L => [0xCB, 0xF5]
  | .set6MemHl => [0xCB, 0xF6]
  | .set6A => [0xCB, 0xF7]
  | .set7B => [0xCB, 0xF8]
  | .set7C => [0xCB, 0xF9]
  | .set7D => [0xCB, 0xFA]
  | .set7E => [0xCB, 0xFB]
  | .set7H => [0xCB, 0xFC]
  | .set7L => [0xCB, 0xFD]
  | .set7MemHl => [0xCB, 0xFE]
  | .set7A => [0xCB, 0xFF]

/-! ### The kind of each instruction's object -/

/-- The kind of the instruction's object, its operand codes bound as R101 to R109 give them. -/
def Instr.kind : Instr → Kind
  | .nop => .nop
  | .ldBcN16 nn => .ldRRN .bc nn
  | .ldMemBcA => .ldIndA .bc
  | .incBc => .incRR .bc
  | .incB => .incR .b
  | .decB => .decR .b
  | .ldBN8 n => .ldRN .b n
  | .rlca => .rotA .rlc
  | .ldMemN16Sp nn => .ldAbsSp nn
  | .addHlBc => .addHl .bc
  | .ldAMemBc => .ldAInd .bc
  | .decBc => .decRR .bc
  | .incC => .incR .c
  | .decC => .decR .c
  | .ldCN8 n => .ldRN .c n
  | .rrca => .rotA .rrc
  | .stop => .stop
  | .ldDeN16 nn => .ldRRN .de nn
  | .ldMemDeA => .ldIndA .de
  | .incDe => .incRR .de
  | .incD => .incR .d
  | .decD => .decR .d
  | .ldDN8 n => .ldRN .d n
  | .rla => .rotA .rl
  | .jrE8 e => .jr e
  | .addHlDe => .addHl .de
  | .ldAMemDe => .ldAInd .de
  | .decDe => .decRR .de
  | .incE => .incR .e
  | .decE => .decR .e
  | .ldEN8 n => .ldRN .e n
  | .rra => .rotA .rr
  | .jrNzE8 e => .jrCc .nz e
  | .ldHlN16 nn => .ldRRN .hl nn
  | .ldMemHlIncA => .ldIndA .hlInc
  | .incHl => .incRR .hl
  | .incH => .incR .h
  | .decH => .decR .h
  | .ldHN8 n => .ldRN .h n
  | .daa => .daa
  | .jrZE8 e => .jrCc .z e
  | .addHlHl => .addHl .hl
  | .ldAMemHlInc => .ldAInd .hlInc
  | .decHl => .decRR .hl
  | .incL => .incR .l
  | .decL => .decR .l
  | .ldLN8 n => .ldRN .l n
  | .cpl => .cpl
  | .jrNcE8 e => .jrCc .nc e
  | .ldSpN16 nn => .ldRRN .sp nn
  | .ldMemHlDecA => .ldIndA .hlDec
  | .incSp => .incRR .sp
  | .incMemHl => .incMemHl
  | .decMemHl => .decMemHl
  | .ldMemHlN8 n => .ldMemHlN n
  | .scf => .scf
  | .jrCE8 e => .jrCc .c e
  | .addHlSp => .addHl .sp
  | .ldAMemHlDec => .ldAInd .hlDec
  | .decSp => .decRR .sp
  | .incA => .incR .a
  | .decA => .decR .a
  | .ldAN8 n => .ldRN .a n
  | .ccf => .ccf
  | .ldBB => .ldRR .b .b
  | .ldBC => .ldRR .b .c
  | .ldBD => .ldRR .b .d
  | .ldBE => .ldRR .b .e
  | .ldBH => .ldRR .b .h
  | .ldBL => .ldRR .b .l
  | .ldBMemHl => .ldRMemHl .b
  | .ldBA => .ldRR .b .a
  | .ldCB => .ldRR .c .b
  | .ldCC => .ldRR .c .c
  | .ldCD => .ldRR .c .d
  | .ldCE => .ldRR .c .e
  | .ldCH => .ldRR .c .h
  | .ldCL => .ldRR .c .l
  | .ldCMemHl => .ldRMemHl .c
  | .ldCA => .ldRR .c .a
  | .ldDB => .ldRR .d .b
  | .ldDC => .ldRR .d .c
  | .ldDD => .ldRR .d .d
  | .ldDE => .ldRR .d .e
  | .ldDH => .ldRR .d .h
  | .ldDL => .ldRR .d .l
  | .ldDMemHl => .ldRMemHl .d
  | .ldDA => .ldRR .d .a
  | .ldEB => .ldRR .e .b
  | .ldEC => .ldRR .e .c
  | .ldED => .ldRR .e .d
  | .ldEE => .ldRR .e .e
  | .ldEH => .ldRR .e .h
  | .ldEL => .ldRR .e .l
  | .ldEMemHl => .ldRMemHl .e
  | .ldEA => .ldRR .e .a
  | .ldHB => .ldRR .h .b
  | .ldHC => .ldRR .h .c
  | .ldHD => .ldRR .h .d
  | .ldHE => .ldRR .h .e
  | .ldHH => .ldRR .h .h
  | .ldHL => .ldRR .h .l
  | .ldHMemHl => .ldRMemHl .h
  | .ldHA => .ldRR .h .a
  | .ldLB => .ldRR .l .b
  | .ldLC => .ldRR .l .c
  | .ldLD => .ldRR .l .d
  | .ldLE => .ldRR .l .e
  | .ldLH => .ldRR .l .h
  | .ldLL => .ldRR .l .l
  | .ldLMemHl => .ldRMemHl .l
  | .ldLA => .ldRR .l .a
  | .ldMemHlB => .ldMemHlR .b
  | .ldMemHlC => .ldMemHlR .c
  | .ldMemHlD => .ldMemHlR .d
  | .ldMemHlE => .ldMemHlR .e
  | .ldMemHlH => .ldMemHlR .h
  | .ldMemHlL => .ldMemHlR .l
  | .halt => .halt
  | .ldMemHlA => .ldMemHlR .a
  | .ldAB => .ldRR .a .b
  | .ldAC => .ldRR .a .c
  | .ldAD => .ldRR .a .d
  | .ldAE => .ldRR .a .e
  | .ldAH => .ldRR .a .h
  | .ldAL => .ldRR .a .l
  | .ldAMemHl => .ldRMemHl .a
  | .ldAA => .ldRR .a .a
  | .addAB => .aluR .add .b
  | .addAC => .aluR .add .c
  | .addAD => .aluR .add .d
  | .addAE => .aluR .add .e
  | .addAH => .aluR .add .h
  | .addAL => .aluR .add .l
  | .addAMemHl => .aluMemHl .add
  | .addAA => .aluR .add .a
  | .adcAB => .aluR .adc .b
  | .adcAC => .aluR .adc .c
  | .adcAD => .aluR .adc .d
  | .adcAE => .aluR .adc .e
  | .adcAH => .aluR .adc .h
  | .adcAL => .aluR .adc .l
  | .adcAMemHl => .aluMemHl .adc
  | .adcAA => .aluR .adc .a
  | .subAB => .aluR .sub .b
  | .subAC => .aluR .sub .c
  | .subAD => .aluR .sub .d
  | .subAE => .aluR .sub .e
  | .subAH => .aluR .sub .h
  | .subAL => .aluR .sub .l
  | .subAMemHl => .aluMemHl .sub
  | .subAA => .aluR .sub .a
  | .sbcAB => .aluR .sbc .b
  | .sbcAC => .aluR .sbc .c
  | .sbcAD => .aluR .sbc .d
  | .sbcAE => .aluR .sbc .e
  | .sbcAH => .aluR .sbc .h
  | .sbcAL => .aluR .sbc .l
  | .sbcAMemHl => .aluMemHl .sbc
  | .sbcAA => .aluR .sbc .a
  | .andAB => .aluR .and .b
  | .andAC => .aluR .and .c
  | .andAD => .aluR .and .d
  | .andAE => .aluR .and .e
  | .andAH => .aluR .and .h
  | .andAL => .aluR .and .l
  | .andAMemHl => .aluMemHl .and
  | .andAA => .aluR .and .a
  | .xorAB => .aluR .xor .b
  | .xorAC => .aluR .xor .c
  | .xorAD => .aluR .xor .d
  | .xorAE => .aluR .xor .e
  | .xorAH => .aluR .xor .h
  | .xorAL => .aluR .xor .l
  | .xorAMemHl => .aluMemHl .xor
  | .xorAA => .aluR .xor .a
  | .orAB => .aluR .or .b
  | .orAC => .aluR .or .c
  | .orAD => .aluR .or .d
  | .orAE => .aluR .or .e
  | .orAH => .aluR .or .h
  | .orAL => .aluR .or .l
  | .orAMemHl => .aluMemHl .or
  | .orAA => .aluR .or .a
  | .cpAB => .aluR .cp .b
  | .cpAC => .aluR .cp .c
  | .cpAD => .aluR .cp .d
  | .cpAE => .aluR .cp .e
  | .cpAH => .aluR .cp .h
  | .cpAL => .aluR .cp .l
  | .cpAMemHl => .aluMemHl .cp
  | .cpAA => .aluR .cp .a
  | .retNz => .retCc .nz
  | .popBc => .pop .bc
  | .jpNzN16 nn => .jpCc .nz nn
  | .jpN16 nn => .jp nn
  | .callNzN16 nn => .callCc .nz nn
  | .pushBc => .push .bc
  | .addAN8 n => .aluN .add n
  | .rst00 => .rst 0
  | .retZ => .retCc .z
  | .ret => .ret
  | .jpZN16 nn => .jpCc .z nn
  | .prefixCb => .prefixCb
  | .callZN16 nn => .callCc .z nn
  | .callN16 nn => .call nn
  | .adcAN8 n => .aluN .adc n
  | .rst08 => .rst 1
  | .retNc => .retCc .nc
  | .popDe => .pop .de
  | .jpNcN16 nn => .jpCc .nc nn
  | .illegalD3 => .illegal 0xD3
  | .callNcN16 nn => .callCc .nc nn
  | .pushDe => .push .de
  | .subAN8 n => .aluN .sub n
  | .rst10 => .rst 2
  | .retC => .retCc .c
  | .reti => .reti
  | .jpCN16 nn => .jpCc .c nn
  | .illegalDB => .illegal 0xDB
  | .callCN16 nn => .callCc .c nn
  | .illegalDD => .illegal 0xDD
  | .sbcAN8 n => .aluN .sbc n
  | .rst18 => .rst 3
  | .ldhMemN8A n => .ldhNA n
  | .popHl => .pop .hl
  | .ldMemCA => .ldMemCA
  | .illegalE3 => .illegal 0xE3
  | .illegalE4 => .illegal 0xE4
  | .pushHl => .push .hl
  | .andAN8 n => .aluN .and n
  | .rst20 => .rst 4
  | .addSpE8 e => .addSp e
  | .jpHl => .jpHl
  | .ldMemN16A nn => .ldAbsA nn
  | .illegalEB => .illegal 0xEB
  | .illegalEC => .illegal 0xEC
  | .illegalED => .illegal 0xED
  | .xorAN8 n => .aluN .xor n
  | .rst28 => .rst 5
  | .ldhAMemN8 n => .ldhAN n
  | .popAf => .pop .af
  | .ldAMemC => .ldAMemC
  | .di => .di
  | .illegalF4 => .illegal 0xF4
  | .pushAf => .push .af
  | .orAN8 n => .aluN .or n
  | .rst30 => .rst 6
  | .ldHlSpE8 e => .ldHlSpE e
  | .ldSpHl => .ldSpHl
  | .ldAMemN16 nn => .ldAAbs nn
  | .ei => .ei
  | .illegalFC => .illegal 0xFC
  | .illegalFD => .illegal 0xFD
  | .cpAN8 n => .aluN .cp n
  | .rst38 => .rst 7
  | .rlcB => .rotR .rlc .b
  | .rlcC => .rotR .rlc .c
  | .rlcD => .rotR .rlc .d
  | .rlcE => .rotR .rlc .e
  | .rlcH => .rotR .rlc .h
  | .rlcL => .rotR .rlc .l
  | .rlcMemHl => .rotMemHl .rlc
  | .rlcA => .rotR .rlc .a
  | .rrcB => .rotR .rrc .b
  | .rrcC => .rotR .rrc .c
  | .rrcD => .rotR .rrc .d
  | .rrcE => .rotR .rrc .e
  | .rrcH => .rotR .rrc .h
  | .rrcL => .rotR .rrc .l
  | .rrcMemHl => .rotMemHl .rrc
  | .rrcA => .rotR .rrc .a
  | .rlB => .rotR .rl .b
  | .rlC => .rotR .rl .c
  | .rlD => .rotR .rl .d
  | .rlE => .rotR .rl .e
  | .rlH => .rotR .rl .h
  | .rlL => .rotR .rl .l
  | .rlMemHl => .rotMemHl .rl
  | .rlA => .rotR .rl .a
  | .rrB => .rotR .rr .b
  | .rrC => .rotR .rr .c
  | .rrD => .rotR .rr .d
  | .rrE => .rotR .rr .e
  | .rrH => .rotR .rr .h
  | .rrL => .rotR .rr .l
  | .rrMemHl => .rotMemHl .rr
  | .rrA => .rotR .rr .a
  | .slaB => .rotR .sla .b
  | .slaC => .rotR .sla .c
  | .slaD => .rotR .sla .d
  | .slaE => .rotR .sla .e
  | .slaH => .rotR .sla .h
  | .slaL => .rotR .sla .l
  | .slaMemHl => .rotMemHl .sla
  | .slaA => .rotR .sla .a
  | .sraB => .rotR .sra .b
  | .sraC => .rotR .sra .c
  | .sraD => .rotR .sra .d
  | .sraE => .rotR .sra .e
  | .sraH => .rotR .sra .h
  | .sraL => .rotR .sra .l
  | .sraMemHl => .rotMemHl .sra
  | .sraA => .rotR .sra .a
  | .swapB => .rotR .swap .b
  | .swapC => .rotR .swap .c
  | .swapD => .rotR .swap .d
  | .swapE => .rotR .swap .e
  | .swapH => .rotR .swap .h
  | .swapL => .rotR .swap .l
  | .swapMemHl => .rotMemHl .swap
  | .swapA => .rotR .swap .a
  | .srlB => .rotR .srl .b
  | .srlC => .rotR .srl .c
  | .srlD => .rotR .srl .d
  | .srlE => .rotR .srl .e
  | .srlH => .rotR .srl .h
  | .srlL => .rotR .srl .l
  | .srlMemHl => .rotMemHl .srl
  | .srlA => .rotR .srl .a
  | .bit0B => .bitR 0 .b
  | .bit0C => .bitR 0 .c
  | .bit0D => .bitR 0 .d
  | .bit0E => .bitR 0 .e
  | .bit0H => .bitR 0 .h
  | .bit0L => .bitR 0 .l
  | .bit0MemHl => .bitMemHl 0
  | .bit0A => .bitR 0 .a
  | .bit1B => .bitR 1 .b
  | .bit1C => .bitR 1 .c
  | .bit1D => .bitR 1 .d
  | .bit1E => .bitR 1 .e
  | .bit1H => .bitR 1 .h
  | .bit1L => .bitR 1 .l
  | .bit1MemHl => .bitMemHl 1
  | .bit1A => .bitR 1 .a
  | .bit2B => .bitR 2 .b
  | .bit2C => .bitR 2 .c
  | .bit2D => .bitR 2 .d
  | .bit2E => .bitR 2 .e
  | .bit2H => .bitR 2 .h
  | .bit2L => .bitR 2 .l
  | .bit2MemHl => .bitMemHl 2
  | .bit2A => .bitR 2 .a
  | .bit3B => .bitR 3 .b
  | .bit3C => .bitR 3 .c
  | .bit3D => .bitR 3 .d
  | .bit3E => .bitR 3 .e
  | .bit3H => .bitR 3 .h
  | .bit3L => .bitR 3 .l
  | .bit3MemHl => .bitMemHl 3
  | .bit3A => .bitR 3 .a
  | .bit4B => .bitR 4 .b
  | .bit4C => .bitR 4 .c
  | .bit4D => .bitR 4 .d
  | .bit4E => .bitR 4 .e
  | .bit4H => .bitR 4 .h
  | .bit4L => .bitR 4 .l
  | .bit4MemHl => .bitMemHl 4
  | .bit4A => .bitR 4 .a
  | .bit5B => .bitR 5 .b
  | .bit5C => .bitR 5 .c
  | .bit5D => .bitR 5 .d
  | .bit5E => .bitR 5 .e
  | .bit5H => .bitR 5 .h
  | .bit5L => .bitR 5 .l
  | .bit5MemHl => .bitMemHl 5
  | .bit5A => .bitR 5 .a
  | .bit6B => .bitR 6 .b
  | .bit6C => .bitR 6 .c
  | .bit6D => .bitR 6 .d
  | .bit6E => .bitR 6 .e
  | .bit6H => .bitR 6 .h
  | .bit6L => .bitR 6 .l
  | .bit6MemHl => .bitMemHl 6
  | .bit6A => .bitR 6 .a
  | .bit7B => .bitR 7 .b
  | .bit7C => .bitR 7 .c
  | .bit7D => .bitR 7 .d
  | .bit7E => .bitR 7 .e
  | .bit7H => .bitR 7 .h
  | .bit7L => .bitR 7 .l
  | .bit7MemHl => .bitMemHl 7
  | .bit7A => .bitR 7 .a
  | .res0B => .resR 0 .b
  | .res0C => .resR 0 .c
  | .res0D => .resR 0 .d
  | .res0E => .resR 0 .e
  | .res0H => .resR 0 .h
  | .res0L => .resR 0 .l
  | .res0MemHl => .resMemHl 0
  | .res0A => .resR 0 .a
  | .res1B => .resR 1 .b
  | .res1C => .resR 1 .c
  | .res1D => .resR 1 .d
  | .res1E => .resR 1 .e
  | .res1H => .resR 1 .h
  | .res1L => .resR 1 .l
  | .res1MemHl => .resMemHl 1
  | .res1A => .resR 1 .a
  | .res2B => .resR 2 .b
  | .res2C => .resR 2 .c
  | .res2D => .resR 2 .d
  | .res2E => .resR 2 .e
  | .res2H => .resR 2 .h
  | .res2L => .resR 2 .l
  | .res2MemHl => .resMemHl 2
  | .res2A => .resR 2 .a
  | .res3B => .resR 3 .b
  | .res3C => .resR 3 .c
  | .res3D => .resR 3 .d
  | .res3E => .resR 3 .e
  | .res3H => .resR 3 .h
  | .res3L => .resR 3 .l
  | .res3MemHl => .resMemHl 3
  | .res3A => .resR 3 .a
  | .res4B => .resR 4 .b
  | .res4C => .resR 4 .c
  | .res4D => .resR 4 .d
  | .res4E => .resR 4 .e
  | .res4H => .resR 4 .h
  | .res4L => .resR 4 .l
  | .res4MemHl => .resMemHl 4
  | .res4A => .resR 4 .a
  | .res5B => .resR 5 .b
  | .res5C => .resR 5 .c
  | .res5D => .resR 5 .d
  | .res5E => .resR 5 .e
  | .res5H => .resR 5 .h
  | .res5L => .resR 5 .l
  | .res5MemHl => .resMemHl 5
  | .res5A => .resR 5 .a
  | .res6B => .resR 6 .b
  | .res6C => .resR 6 .c
  | .res6D => .resR 6 .d
  | .res6E => .resR 6 .e
  | .res6H => .resR 6 .h
  | .res6L => .resR 6 .l
  | .res6MemHl => .resMemHl 6
  | .res6A => .resR 6 .a
  | .res7B => .resR 7 .b
  | .res7C => .resR 7 .c
  | .res7D => .resR 7 .d
  | .res7E => .resR 7 .e
  | .res7H => .resR 7 .h
  | .res7L => .resR 7 .l
  | .res7MemHl => .resMemHl 7
  | .res7A => .resR 7 .a
  | .set0B => .setR 0 .b
  | .set0C => .setR 0 .c
  | .set0D => .setR 0 .d
  | .set0E => .setR 0 .e
  | .set0H => .setR 0 .h
  | .set0L => .setR 0 .l
  | .set0MemHl => .setMemHl 0
  | .set0A => .setR 0 .a
  | .set1B => .setR 1 .b
  | .set1C => .setR 1 .c
  | .set1D => .setR 1 .d
  | .set1E => .setR 1 .e
  | .set1H => .setR 1 .h
  | .set1L => .setR 1 .l
  | .set1MemHl => .setMemHl 1
  | .set1A => .setR 1 .a
  | .set2B => .setR 2 .b
  | .set2C => .setR 2 .c
  | .set2D => .setR 2 .d
  | .set2E => .setR 2 .e
  | .set2H => .setR 2 .h
  | .set2L => .setR 2 .l
  | .set2MemHl => .setMemHl 2
  | .set2A => .setR 2 .a
  | .set3B => .setR 3 .b
  | .set3C => .setR 3 .c
  | .set3D => .setR 3 .d
  | .set3E => .setR 3 .e
  | .set3H => .setR 3 .h
  | .set3L => .setR 3 .l
  | .set3MemHl => .setMemHl 3
  | .set3A => .setR 3 .a
  | .set4B => .setR 4 .b
  | .set4C => .setR 4 .c
  | .set4D => .setR 4 .d
  | .set4E => .setR 4 .e
  | .set4H => .setR 4 .h
  | .set4L => .setR 4 .l
  | .set4MemHl => .setMemHl 4
  | .set4A => .setR 4 .a
  | .set5B => .setR 5 .b
  | .set5C => .setR 5 .c
  | .set5D => .setR 5 .d
  | .set5E => .setR 5 .e
  | .set5H => .setR 5 .h
  | .set5L => .setR 5 .l
  | .set5MemHl => .setMemHl 5
  | .set5A => .setR 5 .a
  | .set6B => .setR 6 .b
  | .set6C => .setR 6 .c
  | .set6D => .setR 6 .d
  | .set6E => .setR 6 .e
  | .set6H => .setR 6 .h
  | .set6L => .setR 6 .l
  | .set6MemHl => .setMemHl 6
  | .set6A => .setR 6 .a
  | .set7B => .setR 7 .b
  | .set7C => .setR 7 .c
  | .set7D => .setR 7 .d
  | .set7E => .setR 7 .e
  | .set7H => .setR 7 .h
  | .set7L => .setR 7 .l
  | .set7MemHl => .setMemHl 7
  | .set7A => .setR 7 .a

/-! ### The table's words -/

/-- The bytes of a table word, in address order, three of them (log 10). The table numbers a CB row's word with 0xCB in
bits 15..8 and the CB byte in bits 7..0; any other word has its first byte in bits 7..0. The bits above `nbits` are 0. -/
def tableWordBytes (nbits w : Nat) : List Byte :=
  let v := w % 2 ^ nbits
  let b0 : Byte := BitVec.ofNat 8 v
  let b1 : Byte := BitVec.ofNat 8 (v / 256)
  let b2 : Byte := BitVec.ofNat 8 (v / 65536)
  if nbits = 16 ∧ b1 = 0xCB then [b1, b0, 0] else [b0, b1, b2]

/-- The instruction the decoder reads from a table word. The eight bits of the row PREFIX_CB are a lone 0xCB
(log 11). -/
def decodeTableWord (nbits w : Nat) : Option Instr :=
  let bytes := if nbits = 8 ∧ w % 256 = 0xCB then [0xCB] else tableWordBytes nbits w
  match decode bytes with
  | .ok (i, _) => some i
  | .error _ => none

end Sys2Proof
end

