-- ==== Sys2Proof/Config.lean ====
section
/-! DEFINITION. The named parameters of the hardware (spec 00_scope.md R5). An `opaque` constant is a
parameter the spec leaves OPEN: it has no value any proof can use. -/

namespace Sys2Proof.Config

/-- STOP_LENGTH, the parameter of 45_system.md R302: OPEN, 1 or 2, no default (92 D16).
True when STOP is two bytes long. Free value, log 2. -/
opaque stopIsTwoBytes : Bool

/-- STOP_LENGTH as the number of bytes PC advances by (R302). -/
def stopLength : Word := if stopIsTwoBytes then 2 else 1

/-- ERAM_NONE_VALUE, the byte a static cartridge returns at 0xA000–0xBFFF: OPEN (92 D28, 20_memory.md R75).
Free value, log 6. -/
opaque eramNoneValue : Byte

/-- `cart_read` of a cartridge whose mapper is outside the spec (20_memory.md R75): it depends only on the
cartridge's state and the address. Free value, log 5. -/
opaque cartRead : List Host.Cell → Word → Byte

/-- `cart_write` of such a cartridge: the cartridge's state afterwards (20_memory.md R75). Free value, log 5. -/
opaque cartWrite : List Host.Cell → Word → Byte → List Host.Cell

/-- The default of ILLEGAL_OPCODE_FAULT (00_scope.md R5, 45_system.md R306): false, the source's behaviour, an unassigned
opcode runs as NOP (92 D32). What a machine was launched with stands in its State (log 7). -/
def illegalOpcodeFault : Bool := false

/-- RUN_CYCLES, the step budget of a bounded run: OPEN (70_reset_and_hazards.md R395, 92 D43). Log 13. -/
opaque runCycles : Nat

/-- RESET_PROFILE, the register file at reset (10_state.md R50). -/
structure ResetProfile where
  a : Byte
  f : Byte
  b : Byte
  c : Byte
  d : Byte
  e : Byte
  h : Byte
  l : Byte
  sp : Word
  pc : Word
  deriving DecidableEq, Repr

/-- A profile must satisfy `F[3:0] = 0` (R50). -/
def ResetProfile.legal (p : ResetProfile) : Bool := p.f &&& 0x0F == 0

/-- DMG_POST_BOOT, the default profile (R50). -/
def dmgPostBoot : ResetProfile :=
  { a := 0x01, f := 0xB0, b := 0x00, c := 0x13, d := 0x00, e := 0xD8, h := 0x01, l := 0x4D,
    sp := 0xFFFE, pc := 0x0100 }

end Sys2Proof.Config
end

