-- ==== Sys2Proof/Machine/State.lean ====
section
/-! DEFINITION. The state of the core (spec 10_state.md), as plain data, its reset value, and the reasons a step can stop. -/

namespace Sys2Proof.Machine

/-! ### Register file -/

/-- The register file: eight 8-bit registers, SP and PC (R20, R24, R25). A pair is a view of two of them (R21). -/
structure Regs where
  a : Byte
  f : Byte
  b : Byte
  c : Byte
  d : Byte
  e : Byte
  h : Byte
  l : Byte
  sp : Word
  pc : Word
  deriving DecidableEq, Repr

/-! ### Interrupt types -/

/-- The five interrupt types, highest priority first (60_exceptions.md R321). -/
inductive Irq | vblank | lcd | timer | serial | joypad
  deriving DecidableEq, Repr

/-! ### Orchestrator -/

/-- The intermediate latches of an instruction object (R28). -/
structure Latches where
  lo : Byte           -- low byte of a popped value
  hi : Byte           -- high byte of a popped value
  n : Byte            -- a byte read from memory
  res : Byte          -- a computed byte
  haltBug : Bool      -- HALT only
  sub : Option Kind   -- the CB trampoline's owned sub-instruction
  deriving DecidableEq, Repr

/-- The latches of a new object; no rule reads a latch its own ticks have not written (R28; log 15). -/
def Latches.fresh : Latches := { lo := 0, hi := 0, n := 0, res := 0, haltBug := false, sub := none }

/-- An instruction object (R28). -/
inductive Obj
  /-- An instruction whose immediate bytes are not all read yet: its opcode, and the latch of its first immediate byte
  once read. Its step counter is 1 before that byte is latched and 2 after (R136; log 15). -/
  | fetching (op : Byte) (lo : Option Byte)
  /-- An instruction with its operands bound: kind, step counter, latches. -/
  | running (k : Kind) (step : Nat) (l : Latches)
  /-- The ServiceRoutine of an interrupt: type and step counter (60_exceptions.md R324). -/
  | service (t : Irq) (step : Nat)
  deriving DecidableEq, Repr

/-! ### Timer -/

/-- The timer (R29). DIV is bits 13:6 of `sysctr`. -/
structure Timer where
  sysctr : BitVec 14
  tima : Byte
  tma : Byte
  tac : BitVec 3
  prevBit : Bool
  ovfPending : Bool
  deriving DecidableEq, Repr

/-! ### Bus locks and OAM DMA controller -/

/-- The three lock booleans (R32). -/
structure Locks where
  vram : Bool
  oam : Bool
  dma : Bool
  deriving DecidableEq, Repr

/-- The OAM DMA controller: step and latched bank (R33), and the trigger byte at 0xFF46 (R35). -/
structure Dma where
  step : Fin 161
  bank : Byte
  trigger : Byte
  deriving DecidableEq, Repr

/-! ### Memories -/

/-- Bytes by address, as cells in canonical form: addresses strictly rising, no cell holding 0x00, which is what an
unlisted address reads as (log 4, log 5). -/
structure Memory where
  cells : List Host.Cell
  deriving DecidableEq, Repr

/-- The memory with no cell: every byte 0x00. -/
def Memory.empty : Memory := { cells := [] }

/-- The cartridge (R36, 20_memory.md R75): the instance STATIC_ROM(rom), or any other mapper, with its own state as
cells and its contract as the parameters `Config.cartRead` and `Config.cartWrite` (log 5). -/
inductive Cart
  | staticRom (rom : Memory)
  | mapper (st : List Host.Cell)
  deriving DecidableEq, Repr

/-! ### I/O bytes -/

/-- The nine PPU bytes 0xFF40–0xFF45, 0xFF47–0xFF49 (R35). -/
inductive PpuReg | ff40 | ff41 | ff42 | ff43 | ff44 | ff45 | ff47 | ff48 | ff49
  deriving DecidableEq, Repr

/-- The stored PPU bytes (R35, 20_memory.md R86). -/
structure Ppu where
  ff40 : Byte
  ff41 : Byte
  ff42 : Byte
  ff43 : Byte
  ff44 : Byte
  ff45 : Byte
  ff47 : Byte
  ff48 : Byte
  ff49 : Byte
  deriving DecidableEq, Repr

/-! ### The environment, as data -/

/-- `joyp_nibble`, the joypad's nibble for each value of the select latch (R37). -/
structure Nibbles where
  sel0 : BitVec 4
  sel1 : BitVec 4
  sel2 : BitVec 4
  sel3 : BitVec 4
  deriving DecidableEq, Repr

/-- The actions the environment may take between CPU ticks, and no others (60_exceptions.md R350). -/
inductive EnvAction
  | lockVram
  | unlockVram
  | lockOam
  | unlockOam
  | ppuRead (a : Word)
  | ppuWrite (a : Word) (data : Byte)
  | ppuStore (r : PpuReg) (data : Byte)
  | requestVblank
  | requestLcd
  | setNibbles (n : Nibbles)
  | requestJoypad
  | consumeSerial
  | storeSb (data : Byte)
  | storeSc (data : Byte)
  | requestSerial
  deriving DecidableEq, Repr



/-- Everything the spec gives the machine (10_state.md), and, last, the inputs and outputs it names, as data. -/
structure State where
  regs : Regs                    -- R20 to R25
  ime : Bool                     -- R26
  cur : Option Obj               -- R27, R28
  timer : Timer                  -- R29
  iflag : BitVec 5               -- IF, R30
  ie : Byte                      -- IE, R31
  locks : Locks                  -- R32
  dma : Dma                      -- R33, R35
  mem : Memory                   -- VRAM, WRAM, OAM, HRAM by bus address, R34
  cart : Cart                    -- R36
  sel : BitVec 2                 -- JOYP select latch, R35
  sb : Byte                      -- R35
  sc : Byte                      -- R35
  ppu : Ppu                      -- R35
  nibbles : Nibbles              -- R37 (log 9)
  serialOut : List Byte          -- SerialTransmit events not yet consumed, R38 (log 19)
  env : List (List EnvAction)    -- the environment's moves still to come, 60_exceptions.md R350 (log 8)
  illegalFault : Bool            -- ILLEGAL_OPCODE_FAULT as the host gave it at launch, 70_reset_and_hazards.md R396 (log 7)
  deriving DecidableEq, Repr

/-- The reasons a step ends in a fault. -/
inductive Fault
  /-- `fault IllegalOpcode(op)` of 45_system.md R306, raised by the meanings of the eleven unassigned opcodes when the
  machine was launched with ILLEGAL_OPCODE_FAULT true, which is not the default. Safe: the machine stops where the hardware goes on. -/
  | illegalOpcode (op : Byte)
  deriving DecidableEq, Repr

/-- The reasons a step is refused. -/
inductive Refusal
  /-- An instruction that has no meaning in the model yet, raised by its arm of `exec`. Safe. No arm raises it. -/
  | notModelled (mnemonic : String)
  deriving DecidableEq, Repr

/-- The machine at power-on (10_state.md R50, R51, R52) from what the host gives at launch (70_reset_and_hazards.md R396):
any register profile, any draw of the RAM contents, any cartridge, and ILLEGAL_OPCODE_FAULT. -/
def State.powerOn (p : Config.ResetProfile) (ram : Memory) (cart : Cart) (illegalFault : Bool) : State :=
  { regs := { a := p.a, f := p.f, b := p.b, c := p.c, d := p.d, e := p.e, h := p.h, l := p.l, sp := p.sp, pc := p.pc }
    ime := false
    cur := none
    timer := { sysctr := 0, tima := 0, tma := 0, tac := 0, prevBit := false, ovfPending := false }
    iflag := 0
    ie := 0
    locks := { vram := false, oam := false, dma := false }
    dma := { step := 0, bank := 0, trigger := 0 }
    mem := ram
    cart := cart
    sel := 3
    sb := 0
    sc := 0
    ppu := { ff40 := 0, ff41 := 0, ff42 := 0, ff43 := 0, ff44 := 0, ff45 := 0, ff47 := 0, ff48 := 0, ff49 := 0 }
    nibbles := { sel0 := 0xF, sel1 := 0xF, sel2 := 0xF, sel3 := 0xF }
    serialOut := []
    env := []
    illegalFault := illegalFault }

/-- The machine right after reset: the default profile DMG_POST_BOOT (R50; log 3), RAM all 0x00 (log 4), a static
cartridge whose ROM bytes are all 0x00 (log 5), ILLEGAL_OPCODE_FAULT at its default (log 7). A program is loaded from
outside (log 16). -/
def State.reset : State :=
  State.powerOn Config.dmgPostBoot Memory.empty (.staticRom Memory.empty) Config.illegalOpcodeFault

end Sys2Proof.Machine
end

