-- ==== Sys2Proof/Machine/Operands.lean ====
section
/-! DEFINITION. Reading and writing the register file, and the operand forms (spec 10_state.md R20 to R25,
30_encoding.md R103 to R107). -/

namespace Sys2Proof.Machine

/-- `sext_16` of a raw e8 byte (00_scope.md R6, 30_encoding.md R106). -/
def sext16 (e : Byte) : Word := e.signExtend 16

/-! ### Register pairs (R21) -/

/-- `AF = A:F`. -/
def Regs.af (r : Regs) : Word := joinBytes r.a r.f
/-- `BC = B:C`. -/
def Regs.bc (r : Regs) : Word := joinBytes r.b r.c
/-- `DE = D:E`. -/
def Regs.de (r : Regs) : Word := joinBytes r.d r.e
/-- `HL = H:L`. -/
def Regs.hl (r : Regs) : Word := joinBytes r.h r.l

/-- A write of all of F stores `v & 0xF0` (R22). -/
def Regs.setF (r : Regs) (v : Byte) : Regs := { r with f := v &&& 0xF0 }
/-- `AF <- v`, with F's low nibble forced to zero (R21, R22). -/
def Regs.setAf (r : Regs) (v : Word) : Regs := ({ r with a := hiByte v } : Regs).setF (loByte v)
/-- `BC <- v` (R21). -/
def Regs.setBc (r : Regs) (v : Word) : Regs := { r with b := hiByte v, c := loByte v }
/-- `DE <- v` (R21). -/
def Regs.setDe (r : Regs) (v : Word) : Regs := { r with d := hiByte v, e := loByte v }
/-- `HL <- v` (R21). -/
def Regs.setHl (r : Regs) (v : Word) : Regs := { r with h := hiByte v, l := loByte v }

/-! ### Operand codes -/

/-- `reg8[r]` (30_encoding.md R103). -/
def Regs.get8 (r : Regs) : R8 → Byte
  | .b => r.b
  | .c => r.c
  | .d => r.d
  | .e => r.e
  | .h => r.h
  | .l => r.l
  | .a => r.a

/-- `reg8[r] <- v` (R103). -/
def Regs.set8 (r : Regs) (x : R8) (v : Byte) : Regs :=
  match x with
  | .b => { r with b := v }
  | .c => { r with c := v }
  | .d => { r with d := v }
  | .e => { r with e := v }
  | .h => { r with h := v }
  | .l => { r with l := v }
  | .a => { r with a := v }

/-- `reg16[p]` (R104). -/
def Regs.get16 (r : Regs) : R16 → Word
  | .bc => r.bc
  | .de => r.de
  | .hl => r.hl
  | .sp => r.sp

/-- `reg16[p] <- v` (R104). -/
def Regs.set16 (r : Regs) (p : R16) (v : Word) : Regs :=
  match p with
  | .bc => r.setBc v
  | .de => r.setDe v
  | .hl => r.setHl v
  | .sp => { r with sp := v }

/-- `reg16stk[p]` (R105). -/
def Regs.getStk (r : Regs) : R16Stk → Word
  | .bc => r.bc
  | .de => r.de
  | .hl => r.hl
  | .af => r.af

/-- `reg16stk[p] <- v` (R105; for AF, R22). -/
def Regs.setStk (r : Regs) (q : R16Stk) (v : Word) : Regs :=
  match q with
  | .bc => r.setBc v
  | .de => r.setDe v
  | .hl => r.setHl v
  | .af => r.setAf v

/-- The address an LD A,(rr) or LD (rr),A form uses (43_loads.md R233, R235, R237, R238). -/
def Regs.ptrAddr (r : Regs) : Ptr → Word
  | .bc => r.bc
  | .de => r.de
  | .hlInc => r.hl
  | .hlDec => r.hl

/-- The update of HL after the transfer, modulo 2^16 (R237, R238, 20_memory.md R82). -/
def Regs.ptrUpdate (r : Regs) : Ptr → Regs
  | .bc => r
  | .de => r
  | .hlInc => r.setHl (r.hl + 1)
  | .hlDec => r.setHl (r.hl - 1)

/-! ### The register file inside the state -/

/-- The state with its register file replaced. -/
def State.setRegs (s : State) (r : Regs) : State := { s with regs := r }

/-- `PC <- (PC + n) mod 2^16` (10_state.md R25, 40_execution_cycle.md R136). -/
def State.advancePc (s : State) (n : Word) : State := s.setRegs { s.regs with pc := s.regs.pc + n }

/-- `PC <- target` (00_scope.md R7). -/
def State.setPc (s : State) (target : Word) : State := s.setRegs { s.regs with pc := target }

/-- `SP <- v`. -/
def State.setSp (s : State) (v : Word) : State := s.setRegs { s.regs with sp := v }

/-- `reg8[x] <- v`. -/
def State.set8 (s : State) (x : R8) (v : Byte) : State := s.setRegs (s.regs.set8 x v)

/-- `0xFF00 + n`, the address of the high-page forms (30_encoding.md R106). -/
def highPage (n : Byte) : Word := 0xFF00 + n.setWidth 16

/-- RST's target, `t * 8` (30_encoding.md R106, 44_control_flow.md R281). -/
def rstTarget (t : Fin 8) : Word := BitVec.ofNat 16 (t.val * 8)

end Sys2Proof.Machine
end

