-- ==== Sys2Proof/Machine/Bus.lean ====
section
/-! DEFINITION. Memory, the cartridge, the address map, the I/O registers and the bus with its source tags and locks
(spec 20_memory.md). -/

namespace Sys2Proof.Machine

/-! ### Memory in canonical form -/

/-- The cells' addresses rise strictly, from `lo` on. -/
def risingFrom : Nat → List Host.Cell → Bool
  | _, [] => true
  | lo, (a, _) :: t => decide (lo ≤ a) && risingFrom (a + 1) t

/-- The canonical form: addresses strictly rising, no cell equal to the 0x00 an unlisted address reads as (log 4). -/
def Memory.wf (m : Memory) : Bool := risingFrom 0 m.cells && m.cells.all (fun c => c.2 != 0)

/-- The byte a list of cells holds at an address; 0x00 where none is listed (log 4, log 5). -/
def readCells : List Host.Cell → Nat → Byte
  | [], _ => 0
  | (b, v) :: t, a => if a = b then v else readCells t a

/-- The cells with a nonzero byte put at its place in the order. -/
def insertCell (a : Nat) (v : Byte) : List Host.Cell → List Host.Cell
  | [] => [(a, v)]
  | (b, w) :: t =>
    if a < b then (a, v) :: (b, w) :: t
    else if a = b then (a, v) :: t
    else (b, w) :: insertCell a v t

/-- The cells after a byte write: writing 0x00 removes the address's cell. -/
def writeCells (cs : List Host.Cell) (a : Nat) (v : Byte) : List Host.Cell :=
  if v = 0 then cs.filter (fun c => c.1 != a) else insertCell a v cs

/-- The byte a memory holds at a bus address. -/
def Memory.read (m : Memory) (a : Word) : Byte := readCells m.cells a.toNat

/-- The memory after a byte write. -/
def Memory.write (m : Memory) (a : Word) (v : Byte) : Memory := { cells := writeCells m.cells a.toNat v }

/-! ### Cartridge contract (R75) -/

/-- `cart_read(addr)`. -/
def Cart.read (c : Cart) (a : Word) : Byte :=
  match c with
  | .staticRom rom => if a.toNat ≤ 0x7FFF then rom.read a else Config.eramNoneValue
  | .mapper st => Config.cartRead st a

/-- `cart_write(addr, data)`: STATIC_ROM ignores every write. -/
def Cart.write (c : Cart) (a : Word) (v : Byte) : Cart :=
  match c with
  | .staticRom rom => .staticRom rom
  | .mapper st => .mapper (Config.cartWrite st a v)

/-! ### Address map (R61, R62) -/

/-- The regions of the address space (R61). -/
inductive Region | rom | vram | eram | wram | unmapped | oam | io | hram | ie
  deriving DecidableEq, Repr

/-- `region(addr)` (R62). -/
def region (a : Word) : Region :=
  let n := a.toNat
  if n ≤ 0x7FFF then .rom
  else if n ≤ 0x9FFF then .vram
  else if n ≤ 0xBFFF then .eram
  else if n ≤ 0xDFFF then .wram
  else if n ≤ 0xFDFF then .unmapped
  else if n ≤ 0xFE9F then .oam
  else if n ≤ 0xFEFF then .unmapped
  else if n ≤ 0xFF7F then .io
  else if n ≤ 0xFFFE then .hram
  else .ie

/-! ### I/O registers (R72) -/

/-- What answers at an address of the I/O region (R72, R73). -/
inductive IoReg | joyp | sb | sc | div | tima | tma | tac | iflag | ppu (r : PpuReg) | dma | unassigned
  deriving DecidableEq, Repr

/-- The I/O register at an address (R72, R73). -/
def ioReg (a : Word) : IoReg :=
  match a.toNat with
  | 0xFF00 => .joyp
  | 0xFF01 => .sb
  | 0xFF02 => .sc
  | 0xFF04 => .div
  | 0xFF05 => .tima
  | 0xFF06 => .tma
  | 0xFF07 => .tac
  | 0xFF0F => .iflag
  | 0xFF40 => .ppu .ff40
  | 0xFF41 => .ppu .ff41
  | 0xFF42 => .ppu .ff42
  | 0xFF43 => .ppu .ff43
  | 0xFF44 => .ppu .ff44
  | 0xFF45 => .ppu .ff45
  | 0xFF46 => .dma
  | 0xFF47 => .ppu .ff47
  | 0xFF48 => .ppu .ff48
  | 0xFF49 => .ppu .ff49
  | _ => .unassigned

/-- The stored PPU byte (R86). -/
def Ppu.get (p : Ppu) : PpuReg → Byte
  | .ff40 => p.ff40
  | .ff41 => p.ff41
  | .ff42 => p.ff42
  | .ff43 => p.ff43
  | .ff44 => p.ff44
  | .ff45 => p.ff45
  | .ff47 => p.ff47
  | .ff48 => p.ff48
  | .ff49 => p.ff49

/-- A store into a PPU byte (R86). -/
def Ppu.set (p : Ppu) (r : PpuReg) (v : Byte) : Ppu :=
  match r with
  | .ff40 => { p with ff40 := v }
  | .ff41 => { p with ff41 := v }
  | .ff42 => { p with ff42 := v }
  | .ff43 => { p with ff43 := v }
  | .ff44 => { p with ff44 := v }
  | .ff45 => { p with ff45 := v }
  | .ff47 => { p with ff47 := v }
  | .ff48 => { p with ff48 := v }
  | .ff49 => { p with ff49 := v }

/-- `joyp_nibble(sel)` for the current select latch (10_state.md R37, R84). -/
def State.joypNibble (s : State) : BitVec 4 :=
  match s.sel.toNat with
  | 0 => s.nibbles.sel0
  | 1 => s.nibbles.sel1
  | 2 => s.nibbles.sel2
  | _ => s.nibbles.sel3

/-- DIV, `sysctr[13:6]` (10_state.md R29, 60_exceptions.md R338). -/
def Timer.div (t : Timer) : Byte := t.sysctr.extractLsb' 6 8

/-- `io_read(addr)` (R72, R73). -/
def ioRead (s : State) (a : Word) : Byte :=
  match ioReg a with
  | .joyp => 0xC0 ||| (s.sel.setWidth 8) <<< 4 ||| s.joypNibble.setWidth 8
  | .sb => s.sb
  | .sc => s.sc
  | .div => s.timer.div
  | .tima => s.timer.tima
  | .tma => s.timer.tma
  | .tac => 0xF8 ||| s.timer.tac.setWidth 8
  | .iflag => 0xE0 ||| s.iflag.setWidth 8
  | .ppu r => s.ppu.get r
  | .dma => s.dma.trigger
  | .unassigned => 0xFF

/-- A write to SC: the byte is stored, and with bit 7 set the event `SerialTransmit(SB)` is emitted (R85; log 19). -/
def writeSc (s : State) (v : Byte) : State :=
  if v.getLsbD 7 then { s with sc := v, serialOut := s.serialOut ++ [s.sb] } else { s with sc := v }

/-- `io_write(addr, data)` (R72, R73). -/
def ioWrite (s : State) (a : Word) (v : Byte) : State :=
  match ioReg a with
  | .joyp => { s with sel := v.extractLsb' 4 2 }
  | .sb => { s with sb := v }
  | .sc => writeSc s v
  | .div => { s with timer := { s.timer with sysctr := 0 } }
  | .tima => { s with timer := { s.timer with tima := v } }
  | .tma => { s with timer := { s.timer with tma := v } }
  | .tac => { s with timer := { s.timer with tac := v.setWidth 3 } }
  | .iflag => { s with iflag := v.setWidth 5 }
  | .ppu r => { s with ppu := s.ppu.set r v }
  | .dma => { s with dma := { s.dma with trigger := v } }
  | .unassigned => s

/-! ### The bus (R63 to R71) -/

/-- The source tag of a bus access (R63). -/
inductive Source | cpu | ppu | dma
  deriving DecidableEq, Repr

/-- The regions the global DMA lock covers (R69). -/
def dmaLockCovers : Region → Bool
  | .rom | .vram | .eram | .wram | .oam => true
  | .unmapped | .io | .hram | .ie => false

/-- The three lock tests of a bus access, in their order (R64, R65, R67, R68, R69). -/
def blocked (l : Locks) (g : Region) (src : Source) : Bool :=
  (l.dma && src != .dma && dmaLockCovers g)
    || (g == .vram && l.vram && src != .ppu)
    || (g == .oam && l.oam && src == .cpu)

/-- The byte behind the bus at an address, whatever the locks (R64). -/
def peek (s : State) (a : Word) : Byte :=
  match region a with
  | .rom => s.cart.read a
  | .eram => s.cart.read a
  | .vram => s.mem.read a
  | .wram => s.mem.read a
  | .oam => s.mem.read a
  | .hram => s.mem.read a
  | .io => ioRead s a
  | .ie => s.ie
  | .unmapped => 0x00

/-- A store behind the bus at an address, whatever the locks (R65). -/
def poke (s : State) (a : Word) (v : Byte) : State :=
  match region a with
  | .rom => { s with cart := s.cart.write a v }
  | .eram => { s with cart := s.cart.write a v }
  | .vram => { s with mem := s.mem.write a v }
  | .wram => { s with mem := s.mem.write a v }
  | .oam => { s with mem := s.mem.write a v }
  | .hram => { s with mem := s.mem.write a v }
  | .io => ioWrite s a v
  | .ie => { s with ie := v }
  | .unmapped => s

/-- `read(addr, src)` (R64). -/
def busRead (s : State) (a : Word) (src : Source) : Byte :=
  if blocked s.locks (region a) src then 0xFF else peek s a

/-- `write(addr, data, src)` (R65). -/
def busWrite (s : State) (a : Word) (v : Byte) (src : Source) : State :=
  if blocked s.locks (region a) src then s else poke s a v

/-- `MemRead(addr, 1)` (R66). -/
def cpuRead (s : State) (a : Word) : Byte := busRead s a .cpu

/-- `MemWrite(addr, 1, v)` (R66). -/
def cpuWrite (s : State) (a : Word) (v : Byte) : State := busWrite s a v .cpu

end Sys2Proof.Machine
end

