-- ==== Sys2Proof/Machine/Devices.lean ====
section
/-! DEFINITION. What changes the machine besides the current instruction: the timer, the OAM DMA controller and the
environment (spec 60_exceptions.md R329, R335 to R353). -/

namespace Sys2Proof.Machine

/-! ### Timer -/

/-- The counter bit the clock select watches, ANDed with the enable (R336 step 2, R337). -/
def watchedBit (sysctr : BitVec 14) (tac : BitVec 3) : Bool :=
  tac.getLsbD 2 &&
    match tac.toNat % 4 with
    | 0 => sysctr.getLsbD 7
    | 1 => sysctr.getLsbD 1
    | 2 => sysctr.getLsbD 3
    | _ => sysctr.getLsbD 5

/-- Step 3 of the timer tick on the timer's own registers: a pending overflow reloads TIMA from TMA (R336, R340). -/
def Timer.reload (t : Timer) : Timer := if t.ovfPending then { t with tima := t.tma, ovfPending := false } else t

/-- Step 4 of the timer tick: a falling edge of the watched bit increments TIMA, and a wrap to 0 flags an overflow for
the next tick (R336). -/
def Timer.edge (t : Timer) (cur : Bool) : Timer :=
  if t.prevBit && !cur then { t with tima := t.tima + 1, ovfPending := t.ovfPending || t.tima + 1 == 0 } else t

/-- The timer's registers after one timer tick (R336). -/
def Timer.tick (t : Timer) : Timer :=
  let n := t.sysctr + 1
  let cur := watchedBit n t.tac
  let t' := ({ t with sysctr := n } : Timer).reload.edge cur
  { t' with prevBit := cur }

/-- The IF mask of the TIMER interrupt (R321). -/
def timerMask : BitVec 5 := 0b00100

/-- `timer_tick()`: the timer's registers, and IF bit 2 on a reload (R336). -/
def timerTick (s : State) : State :=
  { s with timer := s.timer.tick, iflag := if s.timer.ovfPending then s.iflag ||| timerMask else s.iflag }

/-! ### OAM DMA controller -/

/-- The copy of byte i of a transfer, tagged DMA (R345). -/
def dmaCopy (s : State) (i : Nat) : State :=
  busWrite s (0xFE00 + BitVec.ofNat 16 i) (busRead s (joinBytes s.dma.bank 0 + BitVec.ofNat 16 i) .dma) .dma

/-- `dma_tick()` (R345). -/
def dmaTick (s : State) : State :=
  if s.dma.step = 0 then
    if s.dma.trigger = 0 then s
    else { s with dma := { s.dma with bank := s.dma.trigger, step := 1 }, locks := { s.locks with dma := true } }
  else
    let s' := dmaCopy s (s.dma.step.val - 1)
    if s.dma.step.val = 160 then
      { s' with dma := { s'.dma with trigger := 0, step := 0 }, locks := { s'.locks with dma := false } }
    else { s' with dma := { s'.dma with step := s.dma.step + 1 } }

/-! ### Environment -/

/-- One action of the environment (R350 to R353). A PPU access is to VRAM or OAM only; a read leaves no trace in the
core's state (20_memory.md R74; log 18). -/
def envApply (s : State) : EnvAction → State
  | .lockVram => { s with locks := { s.locks with vram := true } }
  | .unlockVram => { s with locks := { s.locks with vram := false } }
  | .lockOam => { s with locks := { s.locks with oam := true } }
  | .unlockOam => { s with locks := { s.locks with oam := false } }
  | .ppuRead _ => s
  | .ppuWrite a v =>
    match region a with
    | .vram => busWrite s a v .ppu
    | .oam => busWrite s a v .ppu
    | .rom | .eram | .wram | .unmapped | .io | .hram | .ie => s
  | .ppuStore r v => { s with ppu := s.ppu.set r v }
  | .requestVblank => { s with iflag := s.iflag ||| 0b00001 }
  | .requestLcd => { s with iflag := s.iflag ||| 0b00010 }
  | .setNibbles n => { s with nibbles := n }
  | .requestJoypad => { s with iflag := s.iflag ||| 0b10000 }
  | .consumeSerial => { s with serialOut := s.serialOut.drop 1 }
  | .storeSb v => { s with sb := v }
  | .storeSc v => { s with sc := v }
  | .requestSerial => { s with iflag := s.iflag ||| 0b01000 }

/-- `env_step`: the environment's next move, any finite sequence of actions; the empty move once none is left
(R350; log 8). -/
def envStep (s : State) : State :=
  match s.env with
  | [] => s
  | move :: later => move.foldl envApply { s with env := later }

end Sys2Proof.Machine
end

