-- ==== Sys2Proof/Machine/Flags.lean ====
section
/-! DEFINITION. The flags and every flag computation (spec 10_state.md R22, R23; 41_alu.md R160, R161, R175, R177, R182;
42_rotate_shift_bit.md R216; 44_control_flow.md R270). -/

namespace Sys2Proof.Machine

/-! ### Flag accessors (R22, R23) -/

/-- `Zf = F[7]`. -/
def Regs.zf (r : Regs) : Bool := r.f.getLsbD 7
/-- `Nf = F[6]`. -/
def Regs.nf (r : Regs) : Bool := r.f.getLsbD 6
/-- `Hf = F[5]`. -/
def Regs.hf (r : Regs) : Bool := r.f.getLsbD 5
/-- `Cf = F[4]`. -/
def Regs.cf (r : Regs) : Bool := r.f.getLsbD 4

/-- `Zf <- b`: OR with 0x80 or AND with 0x7F (R23). -/
def Regs.setZf (r : Regs) (b : Bool) : Regs := { r with f := if b then r.f ||| 0x80 else r.f &&& 0x7F }
/-- `Nf <- b`: OR with 0x40 or AND with 0xBF (R23). -/
def Regs.setNf (r : Regs) (b : Bool) : Regs := { r with f := if b then r.f ||| 0x40 else r.f &&& 0xBF }
/-- `Hf <- b`: OR with 0x20 or AND with 0xDF (R23). -/
def Regs.setHf (r : Regs) (b : Bool) : Regs := { r with f := if b then r.f ||| 0x20 else r.f &&& 0xDF }
/-- `Cf <- b`: OR with 0x10 or AND with 0xEF (R23). -/
def Regs.setCf (r : Regs) (b : Bool) : Regs := { r with f := if b then r.f ||| 0x10 else r.f &&& 0xEF }

/-- The four flags written one after the other. -/
def Regs.setFlags (r : Regs) (z n h c : Bool) : Regs := (((r.setZf z).setNf n).setHf h).setCf c

/-- The predicate of a condition code (44_control_flow.md R270, 30_encoding.md R107). -/
def condHolds (cc : Cond) (r : Regs) : Bool :=
  match cc with
  | .nz => !r.zf
  | .z => r.zf
  | .nc => !r.cf
  | .c => r.cf

/-! ### 8-bit addition and subtraction -/

/-- A result byte with the four flags it sets. -/
structure AluOut where
  res : Byte
  z : Bool
  n : Bool
  h : Bool
  c : Bool
  deriving DecidableEq, Repr

/-- `add8(a, b, c)`: the primary addition, then the carry-in, each checked for half-carry and carry (41_alu.md R160). -/
def add8 (a b : Byte) (cin : Bool) : AluOut :=
  let c := cin.toNat
  let t := a.toNat + b.toNat
  let h1 := decide (a.toNat % 16 + b.toNat % 16 > 0xF)
  let c1 := decide (t > 0xFF)
  let t8 := t % 256
  let h2 := decide (t8 % 16 + c > 0xF)
  let c2 := decide (t8 + c > 0xFF)
  let r : Byte := BitVec.ofNat 8 (t8 + c)
  { res := r, z := r == 0, n := false, h := h1 || h2, c := c1 || c2 }

/-- `sub8(a, b, c)`, the subtracting counterpart (R161). -/
def sub8 (a b : Byte) (cin : Bool) : AluOut :=
  let c := cin.toNat
  let h1 := decide (a.toNat % 16 < b.toNat % 16)
  let c1 := decide (a.toNat < b.toNat)
  let t8 := (a - b).toNat
  let h2 := decide (t8 % 16 < c)
  let c2 := decide (t8 < c)
  let r : Byte := (a - b) - BitVec.ofNat 8 c
  { res := r, z := r == 0, n := true, h := h1 || h2, c := c1 || c2 }

/-- A logical operation's result: `Zf <- (A = 0); Nf <- 0; Cf <- 0`, and the half-carry given (R167 to R169). -/
def logic8 (res : Byte) (h : Bool) : AluOut := { res := res, z := res == 0, n := false, h := h, c := false }

/-- What operation o computes from A, the source v and the carry before it (R163 to R170). -/
def aluOut (o : AluOp) (a v : Byte) (cf : Bool) : AluOut :=
  match o with
  | .add => add8 a v false
  | .adc => add8 a v cf
  | .sub => sub8 a v false
  | .sbc => sub8 a v cf
  | .and => logic8 (a &&& v) true
  | .xor => logic8 (a ^^^ v) false
  | .or => logic8 (a ||| v) false
  | .cp => sub8 a v false

/-- CP writes no result (R170). -/
def writesA : AluOp → Bool
  | .cp => false
  | .add | .adc | .sub | .sbc | .and | .xor | .or => true

/-- `perform OP` on A and the source v: A (but for CP) and all four flags (R163 to R170). -/
def Regs.alu (r : Regs) (o : AluOp) (v : Byte) : Regs :=
  let out := aluOut o r.a v r.cf
  let r' := r.setFlags out.z out.n out.h out.c
  if writesA o then { r' with a := out.res } else r'

/-! ### Increment and decrement -/

/-- The flags of INC on the old byte v: `Zf <- (res = 0); Nf <- 0; Hf <- (v[3:0] = 0xF)`, C untouched (R171). -/
def Regs.incFlags (r : Regs) (v : Byte) : Regs :=
  ((r.setZf (v + 1 == 0)).setNf false).setHf (v.toNat % 16 == 0xF)

/-- The flags of DEC on the old byte v: `Zf <- (res = 0); Nf <- 1; Hf <- (v[3:0] = 0x0)`, C untouched (R172). -/
def Regs.decFlags (r : Regs) (v : Byte) : Regs :=
  ((r.setZf (v - 1 == 0)).setNf true).setHf (v.toNat % 16 == 0)

/-! ### 16-bit additions -/

/-- ADD HL,rr with the addend v: N, H (carry out of bit 11), C (carry out of bit 15) and HL; Z unchanged (R175). -/
def Regs.addHl (r : Regs) (v : Word) : Regs :=
  let h := decide (r.hl.toNat % 4096 + v.toNat % 4096 > 0xFFF)
  let c := decide (r.hl.toNat + v.toNat > 0xFFFF)
  (((r.setNf false).setHf h).setCf c).setHl (r.hl + v)

/-- The result of `spadd(s, e)` (R182). -/
def spaddResult (s : Word) (e : Byte) : Word := s + sext16 e

/-- The flags of `spadd(s, e)`, from the unsigned low-byte addition (R182). -/
def Regs.spaddFlags (r : Regs) (s : Word) (e : Byte) : Regs :=
  r.setFlags false false (decide (s.toNat % 16 + e.toNat % 16 > 0xF)) (decide (s.toNat % 256 + e.toNat > 0xFF))

/-! ### Accumulator adjustments -/

/-- DAA's adjusted accumulator and carry (R177). -/
def daaAdjust (a : Byte) (n h c : Bool) : Byte × Bool :=
  if n then
    let a1 := if c then a - 0x60 else a
    let a2 := if h then a1 - 0x06 else a1
    (a2, c)
  else
    let adj := c || decide (a.toNat ≥ 0x9A)
    let a1 := if adj then a + 0x60 else a
    let a2 := if h || decide (a1.toNat % 16 ≥ 0x0A) then a1 + 0x06 else a1
    (a2, adj)

/-- DAA: A, Z, H and C written, N unchanged (R177). -/
def Regs.daa (r : Regs) : Regs :=
  let out := daaAdjust r.a r.nf r.hf r.cf
  ((({ r with a := out.1 } : Regs).setZf (out.1 == 0)).setHf false).setCf out.2

/-- CPL: A complemented, N and H set, Z and C unchanged (R178). -/
def Regs.cpl (r : Regs) : Regs := (({ r with a := ~~~r.a } : Regs).setNf true).setHf true

/-- SCF: N and H cleared, C set, Z unchanged (R179). -/
def Regs.scf (r : Regs) : Regs := ((r.setNf false).setHf false).setCf true

/-- CCF: N and H cleared, C inverted, Z unchanged (R180). -/
def Regs.ccf (r : Regs) : Regs := ((r.setNf false).setHf false).setCf (!r.cf)

/-! ### Rotates, shifts and bits -/

/-- A byte holding one bit at position 0. -/
def bitByte (b : Bool) : Byte := if b then 1 else 0

/-- The result byte of `rot(k, v, cin)` (42_rotate_shift_bit.md R216). -/
def rotResult (k : RotOp) (v : Byte) (cin : Bool) : Byte :=
  match k with
  | .rlc => v <<< 1 ||| bitByte (v.getLsbD 7)
  | .rrc => v >>> 1 ||| bitByte (v.getLsbD 0) <<< 7
  | .rl => v <<< 1 ||| bitByte cin
  | .rr => v >>> 1 ||| bitByte cin <<< 7
  | .sla => v <<< 1
  | .sra => v >>> 1 ||| bitByte (v.getLsbD 7) <<< 7
  | .swap => v <<< 4 ||| v >>> 4
  | .srl => v >>> 1

/-- The carry-out of `rot(k, v, cin)` (R216). -/
def rotCarry (k : RotOp) (v : Byte) : Bool :=
  match k with
  | .rlc | .rl | .sla => v.getLsbD 7
  | .rrc | .rr | .sra | .srl => v.getLsbD 0
  | .swap => false

/-- The flags of an accumulator rotate of v: Z, N, H cleared, C the carry-out (R200 to R203). -/
def Regs.rotAFlags (r : Regs) (k : RotOp) (v : Byte) : Regs := r.setFlags false false false (rotCarry k v)

/-- The flags of a CB rotate or shift of v: Z from the result, N and H cleared, C the carry-out (R205 to R212). -/
def Regs.rotFlags (r : Regs) (k : RotOp) (v : Byte) : Regs :=
  r.setFlags (rotResult k v r.cf == 0) false false (rotCarry k v)

/-- The flags of BIT b on x: `Zf <- (x[b] = 0); Nf <- 0; Hf <- 1`, C unchanged (R213). -/
def Regs.bitFlags (r : Regs) (b : Fin 8) (x : Byte) : Regs := ((r.setZf (!x.getLsbD b)).setNf false).setHf true

/-- RES b: `x & ~(1 << b)` (R214). -/
def resBit (b : Fin 8) (x : Byte) : Byte := x &&& ~~~((1 : Byte) <<< b.val)

/-- SET b: `x | (1 << b)` (R215). -/
def setBit (b : Fin 8) (x : Byte) : Byte := x ||| (1 : Byte) <<< b.val

end Sys2Proof.Machine
end

