-- ==== Sys2Proof/Machine/Ops.lean ====
section
/-! DEFINITION. The shared operations every instruction is written over: the tick of an instruction object, the end of an
M-cycle, running an object to the next boundary, the stack, interrupt dispatch and return, operand fetch (spec
40_execution_cycle.md; 43_loads.md R251; 60_exceptions.md R321 to R328). -/

namespace Sys2Proof.Machine

/-- What running an instruction answers. -/
abbrev Result := Host.Outcome State Fault Refusal

/-! ### The instruction-object contract (40_execution_cycle.md R132 to R136) -/

/-- The result of a `tick()` (R134). -/
inductive TickResult | running | finished | halt | stop
  deriving DecidableEq, Repr

/-- The state and the latches a `tick()` leaves, with its result. -/
structure Tick where
  state : State
  latches : Latches
  result : TickResult
  deriving DecidableEq, Repr

/-- The ticks of an instruction object: from the step counter (0 in `c1`), the latches and the state (R135). -/
abbrev Ticks := Nat → Latches → State → Tick

/-- A tick after which more cycles follow. -/
def Tick.more (s : State) (l : Latches) : Tick := { state := s, latches := l, result := .running }

/-- A tick that is the object's last. -/
def Tick.last (s : State) (l : Latches) : Tick := { state := s, latches := l, result := .finished }

/-- The slot after a tick: emptied by FINISHED (step 4 of R130), keeping the object after HALT or STOP, which only those
two instructions return (R134). -/
def retire (r : TickResult) (step : Nat) (l : Latches) (s : State) : State :=
  match r with
  | .running => s
  | .finished => { s with cur := none }
  | .halt => { s with cur := some (.running .halt (step + 1) l) }
  | .stop => { s with cur := some (.running .stop (step + 1) l) }

/-! ### The rest of an M-cycle (40_execution_cycle.md R130 steps 5 to 7, R131) -/

/-- `IF & IE` on the five interrupt bits (60_exceptions.md R322). -/
def State.pending (s : State) : BitVec 5 := s.iflag &&& s.ie.setWidth 5

/-- `queued()` (60_exceptions.md R322). -/
def State.queued (s : State) : Bool := s.pending != 0

/-- Step 5: the timer tick, suppressed when the result is STOP (R142). -/
def timerStep (r : TickResult) (s : State) : State :=
  match r with
  | .stop => s
  | .running | .finished | .halt => timerTick s

/-- Step 6: HALT exit, after the timer tick (R140). -/
def haltExit (r : TickResult) (s : State) : State :=
  match r with
  | .halt => if s.queued then { s with cur := none } else s
  | .running | .finished | .stop => s

/-- Step 7: STOP exit, when the joypad nibble reads all-low (R141). -/
def stopExit (r : TickResult) (s : State) : State :=
  match r with
  | .stop => if s.joypNibble = 0 then { s with cur := none } else s
  | .running | .finished | .halt => s

/-- Steps 5 to 7 of the CPU tick. -/
def cpuTickEnd (r : TickResult) (s : State) : State := stopExit r (haltExit r (timerStep r s))

/-- What follows an instruction's tick in its M-cycle: steps 5 to 7 of the CPU tick, the environment's move, the DMA
tick, in this order (R130, R131). -/
def endCycle (r : TickResult) (s : State) : State := dmaTick (envStep (cpuTickEnd r s))

/-! ### Running an object to the next boundary -/

/-- One M-cycle of an object: its tick, the slot, and the rest of the M-cycle. -/
def cycle (t : Ticks) (step : Nat) (l : Latches) (s : State) : Tick :=
  let r := t step l s
  { r with state := endCycle r.result (retire r.result step r.latches r.state) }

/-- The object's M-cycles from the given step on, while its result is RUNNING; no object has more than six (R135). -/
def runTicks : Nat → Ticks → Nat → Latches → State → State
  | 0, _, _, _, s => s
  | fuel + 1, t, step, l, s =>
    let r := cycle t step l s
    match r.result with
    | .running => runTicks fuel t (step + 1) r.latches r.state
    | .finished | .halt | .stop => r.state

/-- The most M-cycles an object takes to its end, or to its next HALT or STOP result (R135: 1 to 6). -/
def maxCycles : Nat := 6

/-- A fresh object run from the M-cycle that reads the instruction's last byte: `first` immediate bytes have been read,
one M-cycle each (R136). It ends at the instruction's retirement, or after one HALT or STOP cycle (log 1, log 15). -/
def perform (first : Nat) (t : Ticks) (s : State) : Result :=
  .next (runTicks maxCycles t first .fresh s)

/-! ### Stack (43_loads.md R251) -/

/-- One push: SP decremented, then the byte written at SP. -/
def pushByte (s : State) (v : Byte) : State :=
  let s' := s.setSp (s.regs.sp - 1)
  cpuWrite s' s'.regs.sp v

/-- The byte a pop reads, at SP. -/
def popByte (s : State) : Byte := cpuRead s s.regs.sp

/-- SP after a pop's read. -/
def State.popSp (s : State) : State := s.setSp (s.regs.sp + 1)

/-! ### Taking an interrupt and returning from one (60_exceptions.md R321 to R328) -/

/-- The interrupt's mask in IF and IE (R321). -/
def Irq.mask : Irq → BitVec 5
  | .vblank => 0b00001
  | .lcd => 0b00010
  | .timer => 0b00100
  | .serial => 0b01000
  | .joypad => 0b10000

/-- The interrupt's vector (R321). -/
def Irq.vector : Irq → Word
  | .vblank => 0x0040
  | .lcd => 0x0048
  | .timer => 0x0050
  | .serial => 0x0058
  | .joypad => 0x0060

/-- The type `pop()` returns for `IF & IE`: the lowest bit set; none when nothing is queued (R323; log 14). -/
def popIrq (m : BitVec 5) : Option Irq :=
  if m.getLsbD 0 then some .vblank
  else if m.getLsbD 1 then some .lcd
  else if m.getLsbD 2 then some .timer
  else if m.getLsbD 3 then some .serial
  else if m.getLsbD 4 then some .joypad
  else none

/-- The interrupt step 1 of the CPU tick takes when the slot is empty: none unless IME is set (R325, R326). -/
def dueIrq (s : State) : Option Irq := if s.ime then popIrq s.pending else none

/-- `IF[t] <- 0` and `IME <- false` (R323, R325 steps 1 and 3). The re-check of IE[t] always passes and is left out
(40_execution_cycle.md R139; log 14). -/
def acceptIrq (t : Irq) (s : State) : State := { s with iflag := s.iflag &&& ~~~t.mask, ime := false }

/-- The ServiceRoutine: two internal cycles, the push of PC high byte first, the jump to the vector (R324). -/
def serviceTicks (t : Irq) : Ticks
  | 0, l, s => .more s l
  | 1, l, s => .more s l
  | 2, l, s => .more (pushByte s (hiByte s.regs.pc)) l
  | 3, l, s => .more (pushByte s (loByte s.regs.pc)) l
  | 4, l, s => .last (s.setPc t.vector) l
  | _, l, s => .last s l

/-- TAKING AN INTERRUPT: the dispatch sequence, from the interrupt check to the ServiceRoutine's last cycle (R325). PC is
saved on the stack, IF[t] and IME are cleared, PC becomes the vector. -/
def takeInterrupt (t : Irq) (s : State) : State := runTicks maxCycles (serviceTicks t) 0 .fresh (acceptIrq t s)

/-- RETURNING FROM AN INTERRUPT, in RETI's last cycle: `PC <- hi:lo` and `IME <- true` (44_control_flow.md R280). -/
def returnFromInterrupt (hi lo : Byte) (s : State) : State := { s.setPc (joinBytes hi lo) with ime := true }

/-! ### Operand fetch (40_execution_cycle.md R135, R136, R138) -/

/-- An instruction with its immediates read, and the state in the M-cycle that read its last byte. -/
structure Fetched where
  instr : Instr
  state : State

/-- The M-cycles of a multi-byte instruction up to the one that reads its last byte: `s` is the state in the M-cycle of
the first immediate byte. Every cycle before the last byte's only reads (R135, R136). -/
def fetchImmediates (e : Entry) (s : State) : Fetched :=
  match e with
  | .op i => { instr := i, state := s }
  | .cbPrefix => { instr := decodeOpcodePrefix (cpuRead s (s.regs.pc + 1)), state := s }
  | .op8 mk => { instr := mk (cpuRead s (s.regs.pc + 1)), state := s }
  | .op16 mk =>
    let s' := endCycle .running s
    { instr := mk (joinBytes (cpuRead s' (s'.regs.pc + 2)) (cpuRead s (s.regs.pc + 1))), state := s' }

/-- The fetch of an instruction: the opcode at PC in `c1`, with the CB byte in the same M-cycle (45_system.md R305), then
its immediate bytes, one M-cycle each (R135, R136, R138). -/
def fetchInstr (s : State) : Fetched :=
  match decodeOpcode (cpuRead s s.regs.pc) with
  | .op i => fetchImmediates (.op i) s
  | .cbPrefix => fetchImmediates .cbPrefix s
  | .op8 mk => fetchImmediates (.op8 mk) (endCycle .running s)
  | .op16 mk => fetchImmediates (.op16 mk) (endCycle .running s)

/-- The rest of a fetch that stopped between two M-cycles (the object `fetching op lo`). -/
def resumeFetch (op : Byte) (lo : Option Byte) (s : State) : Fetched :=
  match lo, decodeOpcode op with
  | none, e => fetchImmediates e s
  | some b, .op16 mk => { instr := mk (joinBytes (cpuRead s (s.regs.pc + 2)) b), state := s }
  | some _, e => fetchImmediates e s

/-! ### Loading an instruction where the fetch reads it -/

/-- Whether a byte placed at the address is what a fetch there reads: a RAM region, or the ROM of a static cartridge. -/
def placeable (s : State) (a : Word) : Bool :=
  match region a, s.cart with
  | .vram, _ => true
  | .wram, _ => true
  | .oam, _ => true
  | .hram, _ => true
  | .rom, .staticRom _ => true
  | _, _ => false

/-- A byte placed at a placeable address. -/
def placeByte (s : State) (a : Word) (v : Byte) : State :=
  match region a, s.cart with
  | .rom, .staticRom rom => { s with cart := .staticRom (rom.write a v) }
  | _, _ => { s with mem := s.mem.write a v }

/-- Bytes placed from an address on. -/
def placeBytes : State → Word → List Byte → State
  | s, _, [] => s
  | s, a, v :: vs => placeBytes (placeByte s a v) (a + 1) vs

/-- A state whose next step fetches, and whose fetch nothing disturbs: empty slot, no interrupt due, no lock, idle DMA, no
environment move to come. State.reset is one already (log 16). -/
def readyToFetch (s : State) : State :=
  { s with
    cur := none
    ime := s.ime && !s.queued
    locks := { vram := false, oam := false, dma := false }
    dma := { s.dma with step := 0, trigger := 0 }
    env := [] }

/-- The instruction bytes placed where the next step fetches: at PC if the three addresses there are placeable, else at
0x0100 in the ROM of a static cartridge, with PC there (log 16). -/
def placeInstr (s : State) (bytes : List Byte) : State :=
  let r := readyToFetch s
  let pc := r.regs.pc
  if placeable r pc && placeable r (pc + 1) && placeable r (pc + 2) then placeBytes r pc bytes
  else placeBytes ({ r with cart := .staticRom .empty }.setPc 0x0100) 0x0100 bytes

end Sys2Proof.Machine
end

