-- ==== Sys2Proof/Machine/Alu.lean ====
section
/-! DEFINITION. Arithmetic and logic (spec 41_alu.md R160 to R182). One `exec` definition per row of the opcode table. -/

namespace Sys2Proof.Machine

/-! ### Ticks of the arithmetic classes -/

/-- `perform OP` with the source v (R163 to R170). -/
def State.alu (s : State) (o : AluOp) (v : Byte) : State := s.setRegs (s.regs.alu o v)

/-- OP A,r (R162). -/
def aluRTicks (o : AluOp) (r : R8) : Ticks
  | 0, l, s => .last ((s.alu o (s.regs.get8 r)).advancePc 1) l
  | _, l, s => .last s l

/-- OP A,(HL) (R162). -/
def aluMemHlTicks (o : AluOp) : Ticks
  | 0, l, s => .more (s.advancePc 1) l
  | 1, l, s => .last (s.alu o (cpuRead s s.regs.hl)) l
  | _, l, s => .last s l

/-- OP A,n8 (R162). -/
def aluNTicks (o : AluOp) (n : Byte) : Ticks
  | 0, l, s => .more s l
  | 1, l, s => .last ((s.advancePc 2).alu o n) l
  | _, l, s => .last s l

/-- INC r (R171). -/
def incRTicks (r : R8) : Ticks
  | 0, l, s =>
    let v := s.regs.get8 r
    .last ((s.setRegs ((s.regs.set8 r (v + 1)).incFlags v)).advancePc 1) l
  | _, l, s => .last s l

/-- INC (HL): read in c2, write and flags in c3 (R171). -/
def incMemHlTicks : Ticks
  | 0, l, s => .more (s.advancePc 1) l
  | 1, l, s => .more s { l with n := cpuRead s s.regs.hl }
  | 2, l, s =>
    let s' := cpuWrite s s.regs.hl (l.n + 1)
    .last (s'.setRegs (s'.regs.incFlags l.n)) { l with res := l.n + 1 }
  | _, l, s => .last s l

/-- DEC r (R172). -/
def decRTicks (r : R8) : Ticks
  | 0, l, s =>
    let v := s.regs.get8 r
    .last ((s.setRegs ((s.regs.set8 r (v - 1)).decFlags v)).advancePc 1) l
  | _, l, s => .last s l

/-- DEC (HL): read in c2, write and flags in c3 (R172). -/
def decMemHlTicks : Ticks
  | 0, l, s => .more (s.advancePc 1) l
  | 1, l, s => .more s { l with n := cpuRead s s.regs.hl }
  | 2, l, s =>
    let s' := cpuWrite s s.regs.hl (l.n - 1)
    .last (s'.setRegs (s'.regs.decFlags l.n)) { l with res := l.n - 1 }
  | _, l, s => .last s l

/-- INC rr: no flag (R173). -/
def incRRTicks (p : R16) : Ticks
  | 0, l, s => .more (s.advancePc 1) l
  | 1, l, s => .last (s.setRegs (s.regs.set16 p (s.regs.get16 p + 1))) l
  | _, l, s => .last s l

/-- DEC rr: no flag (R174). -/
def decRRTicks (p : R16) : Ticks
  | 0, l, s => .more (s.advancePc 1) l
  | 1, l, s => .last (s.setRegs (s.regs.set16 p (s.regs.get16 p - 1))) l
  | _, l, s => .last s l

/-- ADD HL,rr (R175). -/
def addHlTicks (p : R16) : Ticks
  | 0, l, s => .more (s.advancePc 1) l
  | 1, l, s => .last (s.setRegs (s.regs.addHl (s.regs.get16 p))) l
  | _, l, s => .last s l

/-- ADD SP,e8: two internal cycles after the operand, SP and flags in c4 (R176, R182). -/
def addSpTicks (e : Byte) : Ticks
  | 0, l, s => .more s l
  | 1, l, s => .more (s.advancePc 2) l
  | 2, l, s => .more s l
  | 3, l, s => .last ((s.setRegs (s.regs.spaddFlags s.regs.sp e)).setSp (spaddResult s.regs.sp e)) l
  | _, l, s => .last s l

/-- A one-cycle instruction that maps the register file and advances PC by 1. -/
def regsTicks (f : Regs → Regs) : Ticks
  | 0, l, s => .last ((s.setRegs (f s.regs)).advancePc 1) l
  | _, l, s => .last s l

/-- DAA (R177). -/
def daaTicks : Ticks := regsTicks Regs.daa
/-- CPL (R178). -/
def cplTicks : Ticks := regsTicks Regs.cpl
/-- SCF (R179). -/
def scfTicks : Ticks := regsTicks Regs.scf
/-- CCF (R180). -/
def ccfTicks : Ticks := regsTicks Regs.ccf

/-! ### One meaning per row of the opcode table -/

/-! The rows of rule R163. -/

def execAddAB (s : State) : Result := perform 0 (aluRTicks .add .b) s
def execAddAC (s : State) : Result := perform 0 (aluRTicks .add .c) s
def execAddAD (s : State) : Result := perform 0 (aluRTicks .add .d) s
def execAddAE (s : State) : Result := perform 0 (aluRTicks .add .e) s
def execAddAH (s : State) : Result := perform 0 (aluRTicks .add .h) s
def execAddAL (s : State) : Result := perform 0 (aluRTicks .add .l) s
def execAddAMemHl (s : State) : Result := perform 0 (aluMemHlTicks .add) s
def execAddAA (s : State) : Result := perform 0 (aluRTicks .add .a) s
def execAddAN8 (n : Byte) (s : State) : Result := perform 1 (aluNTicks .add n) s

/-! The rows of rule R164. -/

def execAdcAB (s : State) : Result := perform 0 (aluRTicks .adc .b) s
def execAdcAC (s : State) : Result := perform 0 (aluRTicks .adc .c) s
def execAdcAD (s : State) : Result := perform 0 (aluRTicks .adc .d) s
def execAdcAE (s : State) : Result := perform 0 (aluRTicks .adc .e) s
def execAdcAH (s : State) : Result := perform 0 (aluRTicks .adc .h) s
def execAdcAL (s : State) : Result := perform 0 (aluRTicks .adc .l) s
def execAdcAMemHl (s : State) : Result := perform 0 (aluMemHlTicks .adc) s
def execAdcAA (s : State) : Result := perform 0 (aluRTicks .adc .a) s
def execAdcAN8 (n : Byte) (s : State) : Result := perform 1 (aluNTicks .adc n) s

/-! The rows of rule R165. -/

def execSubAB (s : State) : Result := perform 0 (aluRTicks .sub .b) s
def execSubAC (s : State) : Result := perform 0 (aluRTicks .sub .c) s
def execSubAD (s : State) : Result := perform 0 (aluRTicks .sub .d) s
def execSubAE (s : State) : Result := perform 0 (aluRTicks .sub .e) s
def execSubAH (s : State) : Result := perform 0 (aluRTicks .sub .h) s
def execSubAL (s : State) : Result := perform 0 (aluRTicks .sub .l) s
def execSubAMemHl (s : State) : Result := perform 0 (aluMemHlTicks .sub) s
def execSubAA (s : State) : Result := perform 0 (aluRTicks .sub .a) s
def execSubAN8 (n : Byte) (s : State) : Result := perform 1 (aluNTicks .sub n) s

/-! The rows of rule R166. -/

def execSbcAB (s : State) : Result := perform 0 (aluRTicks .sbc .b) s
def execSbcAC (s : State) : Result := perform 0 (aluRTicks .sbc .c) s
def execSbcAD (s : State) : Result := perform 0 (aluRTicks .sbc .d) s
def execSbcAE (s : State) : Result := perform 0 (aluRTicks .sbc .e) s
def execSbcAH (s : State) : Result := perform 0 (aluRTicks .sbc .h) s
def execSbcAL (s : State) : Result := perform 0 (aluRTicks .sbc .l) s
def execSbcAMemHl (s : State) : Result := perform 0 (aluMemHlTicks .sbc) s
def execSbcAA (s : State) : Result := perform 0 (aluRTicks .sbc .a) s
def execSbcAN8 (n : Byte) (s : State) : Result := perform 1 (aluNTicks .sbc n) s

/-! The rows of rule R167. -/

def execAndAB (s : State) : Result := perform 0 (aluRTicks .and .b) s
def execAndAC (s : State) : Result := perform 0 (aluRTicks .and .c) s
def execAndAD (s : State) : Result := perform 0 (aluRTicks .and .d) s
def execAndAE (s : State) : Result := perform 0 (aluRTicks .and .e) s
def execAndAH (s : State) : Result := perform 0 (aluRTicks .and .h) s
def execAndAL (s : State) : Result := perform 0 (aluRTicks .and .l) s
def execAndAMemHl (s : State) : Result := perform 0 (aluMemHlTicks .and) s
def execAndAA (s : State) : Result := perform 0 (aluRTicks .and .a) s
def execAndAN8 (n : Byte) (s : State) : Result := perform 1 (aluNTicks .and n) s

/-! The rows of rule R168. -/

def execXorAB (s : State) : Result := perform 0 (aluRTicks .xor .b) s
def execXorAC (s : State) : Result := perform 0 (aluRTicks .xor .c) s
def execXorAD (s : State) : Result := perform 0 (aluRTicks .xor .d) s
def execXorAE (s : State) : Result := perform 0 (aluRTicks .xor .e) s
def execXorAH (s : State) : Result := perform 0 (aluRTicks .xor .h) s
def execXorAL (s : State) : Result := perform 0 (aluRTicks .xor .l) s
def execXorAMemHl (s : State) : Result := perform 0 (aluMemHlTicks .xor) s
def execXorAA (s : State) : Result := perform 0 (aluRTicks .xor .a) s
def execXorAN8 (n : Byte) (s : State) : Result := perform 1 (aluNTicks .xor n) s

/-! The rows of rule R169. -/

def execOrAB (s : State) : Result := perform 0 (aluRTicks .or .b) s
def execOrAC (s : State) : Result := perform 0 (aluRTicks .or .c) s
def execOrAD (s : State) : Result := perform 0 (aluRTicks .or .d) s
def execOrAE (s : State) : Result := perform 0 (aluRTicks .or .e) s
def execOrAH (s : State) : Result := perform 0 (aluRTicks .or .h) s
def execOrAL (s : State) : Result := perform 0 (aluRTicks .or .l) s
def execOrAMemHl (s : State) : Result := perform 0 (aluMemHlTicks .or) s
def execOrAA (s : State) : Result := perform 0 (aluRTicks .or .a) s
def execOrAN8 (n : Byte) (s : State) : Result := perform 1 (aluNTicks .or n) s

/-! The rows of rule R170. -/

def execCpAB (s : State) : Result := perform 0 (aluRTicks .cp .b) s
def execCpAC (s : State) : Result := perform 0 (aluRTicks .cp .c) s
def execCpAD (s : State) : Result := perform 0 (aluRTicks .cp .d) s
def execCpAE (s : State) : Result := perform 0 (aluRTicks .cp .e) s
def execCpAH (s : State) : Result := perform 0 (aluRTicks .cp .h) s
def execCpAL (s : State) : Result := perform 0 (aluRTicks .cp .l) s
def execCpAMemHl (s : State) : Result := perform 0 (aluMemHlTicks .cp) s
def execCpAA (s : State) : Result := perform 0 (aluRTicks .cp .a) s
def execCpAN8 (n : Byte) (s : State) : Result := perform 1 (aluNTicks .cp n) s

/-! The rows of rule R171. -/

def execIncB (s : State) : Result := perform 0 (incRTicks .b) s
def execIncC (s : State) : Result := perform 0 (incRTicks .c) s
def execIncD (s : State) : Result := perform 0 (incRTicks .d) s
def execIncE (s : State) : Result := perform 0 (incRTicks .e) s
def execIncH (s : State) : Result := perform 0 (incRTicks .h) s
def execIncL (s : State) : Result := perform 0 (incRTicks .l) s
def execIncMemHl (s : State) : Result := perform 0 incMemHlTicks s
def execIncA (s : State) : Result := perform 0 (incRTicks .a) s

/-! The rows of rule R172. -/

def execDecB (s : State) : Result := perform 0 (decRTicks .b) s
def execDecC (s : State) : Result := perform 0 (decRTicks .c) s
def execDecD (s : State) : Result := perform 0 (decRTicks .d) s
def execDecE (s : State) : Result := perform 0 (decRTicks .e) s
def execDecH (s : State) : Result := perform 0 (decRTicks .h) s
def execDecL (s : State) : Result := perform 0 (decRTicks .l) s
def execDecMemHl (s : State) : Result := perform 0 decMemHlTicks s
def execDecA (s : State) : Result := perform 0 (decRTicks .a) s

/-! The rows of rule R173. -/

def execIncBc (s : State) : Result := perform 0 (incRRTicks .bc) s
def execIncDe (s : State) : Result := perform 0 (incRRTicks .de) s
def execIncHl (s : State) : Result := perform 0 (incRRTicks .hl) s
def execIncSp (s : State) : Result := perform 0 (incRRTicks .sp) s

/-! The rows of rule R174. -/

def execDecBc (s : State) : Result := perform 0 (decRRTicks .bc) s
def execDecDe (s : State) : Result := perform 0 (decRRTicks .de) s
def execDecHl (s : State) : Result := perform 0 (decRRTicks .hl) s
def execDecSp (s : State) : Result := perform 0 (decRRTicks .sp) s

/-! The rows of rule R175. -/

def execAddHlBc (s : State) : Result := perform 0 (addHlTicks .bc) s
def execAddHlDe (s : State) : Result := perform 0 (addHlTicks .de) s
def execAddHlHl (s : State) : Result := perform 0 (addHlTicks .hl) s
def execAddHlSp (s : State) : Result := perform 0 (addHlTicks .sp) s

/-! The rows of rule R176. -/

def execAddSpE8 (e : Byte) (s : State) : Result := perform 1 (addSpTicks e) s

/-! The rows of rule R177. -/

def execDaa (s : State) : Result := perform 0 daaTicks s

/-! The rows of rule R178. -/

def execCpl (s : State) : Result := perform 0 cplTicks s

/-! The rows of rule R179. -/

def execScf (s : State) : Result := perform 0 scfTicks s

/-! The rows of rule R180. -/

def execCcf (s : State) : Result := perform 0 ccfTicks s

end Sys2Proof.Machine
end

