-- ==== Sys2Proof/Machine/Control.lean ====
section
/-! DEFINITION. Jumps, calls, returns and restarts (spec 44_control_flow.md R270 to R283). One `exec` definition per row of
the opcode table. -/

namespace Sys2Proof.Machine

/-! ### Ticks of the control-flow classes -/

/-- JP nn (R271). -/
def jpTicks (nn : Word) : Ticks
  | 0, l, s => .more s l
  | 1, l, s => .more s l
  | 2, l, s => .more (s.advancePc 3) l
  | 3, l, s => .last (s.setPc nn) l
  | _, l, s => .last s l

/-- JP cc,nn: the condition in c3 (R272). -/
def jpCcTicks (cc : Cond) (nn : Word) : Ticks
  | 0, l, s => .more s l
  | 1, l, s => .more s l
  | 2, l, s => if condHolds cc s.regs then .more (s.advancePc 3) l else .last (s.advancePc 3) l
  | 3, l, s => .last (s.setPc nn) l
  | _, l, s => .last s l

/-- JP HL (R273). -/
def jpHlTicks : Ticks
  | 0, l, s => .last (s.setPc s.regs.hl) l
  | _, l, s => .last s l

/-- JR e8 (R274). -/
def jrTicks (e : Byte) : Ticks
  | 0, l, s => .more s l
  | 1, l, s => .more (s.advancePc 2) l
  | 2, l, s => .last (s.setPc (s.regs.pc + sext16 e)) l
  | _, l, s => .last s l

/-- JR cc,e8: the condition in c2 (R275). -/
def jrCcTicks (cc : Cond) (e : Byte) : Ticks
  | 0, l, s => .more s l
  | 1, l, s => if condHolds cc s.regs then .more (s.advancePc 2) l else .last (s.advancePc 2) l
  | 2, l, s => .last (s.setPc (s.regs.pc + sext16 e)) l
  | _, l, s => .last s l

/-- CALL nn: the address of the byte after the CALL is pushed, high byte first (R276). -/
def callTicks (nn : Word) : Ticks
  | 0, l, s => .more s l
  | 1, l, s => .more s l
  | 2, l, s => .more (s.advancePc 3) l
  | 3, l, s => .more s l
  | 4, l, s => .more (pushByte s (hiByte s.regs.pc)) l
  | 5, l, s => .last ((pushByte s (loByte s.regs.pc)).setPc nn) l
  | _, l, s => .last s l

/-- CALL cc,nn: the condition in c3 (R277). -/
def callCcTicks (cc : Cond) (nn : Word) : Ticks
  | 0, l, s => .more s l
  | 1, l, s => .more s l
  | 2, l, s => if condHolds cc s.regs then .more (s.advancePc 3) l else .last (s.advancePc 3) l
  | 3, l, s => .more s l
  | 4, l, s => .more (pushByte s (hiByte s.regs.pc)) l
  | 5, l, s => .last ((pushByte s (loByte s.regs.pc)).setPc nn) l
  | _, l, s => .last s l

/-- RET (R278). -/
def retTicks : Ticks
  | 0, l, s => .more (s.advancePc 1) l
  | 1, l, s => .more s.popSp { l with lo := popByte s }
  | 2, l, s => .more s.popSp { l with hi := popByte s }
  | 3, l, s => .last (s.setPc (joinBytes l.hi l.lo)) l
  | _, l, s => .last s l

/-- RET cc: the condition in c2, an internal cycle (R279). -/
def retCcTicks (cc : Cond) : Ticks
  | 0, l, s => .more (s.advancePc 1) l
  | 1, l, s => if condHolds cc s.regs then .more s l else .last s l
  | 2, l, s => .more s.popSp { l with lo := popByte s }
  | 3, l, s => .more s.popSp { l with hi := popByte s }
  | 4, l, s => .last (s.setPc (joinBytes l.hi l.lo)) l
  | _, l, s => .last s l

/-- RETI: as RET, with IME set together with PC (R280). -/
def retiTicks : Ticks
  | 0, l, s => .more (s.advancePc 1) l
  | 1, l, s => .more s.popSp { l with lo := popByte s }
  | 2, l, s => .more s.popSp { l with hi := popByte s }
  | 3, l, s => .last (returnFromInterrupt l.hi l.lo s) l
  | _, l, s => .last s l

/-- RST t: the address of the byte after the RST is pushed, high byte first (R281). -/
def rstTicks (t : Fin 8) : Ticks
  | 0, l, s => .more (s.advancePc 1) l
  | 1, l, s => .more s l
  | 2, l, s => .more (pushByte s (hiByte s.regs.pc)) l
  | 3, l, s => .last ((pushByte s (loByte s.regs.pc)).setPc (rstTarget t)) l
  | _, l, s => .last s l

/-! ### One meaning per row of the opcode table -/

/-! The rows of rule R271. -/

def execJpN16 (nn : Word) (s : State) : Result := perform 2 (jpTicks nn) s

/-! The rows of rule R272. -/

def execJpNzN16 (nn : Word) (s : State) : Result := perform 2 (jpCcTicks .nz nn) s
def execJpZN16 (nn : Word) (s : State) : Result := perform 2 (jpCcTicks .z nn) s
def execJpNcN16 (nn : Word) (s : State) : Result := perform 2 (jpCcTicks .nc nn) s
def execJpCN16 (nn : Word) (s : State) : Result := perform 2 (jpCcTicks .c nn) s

/-! The rows of rule R273. -/

def execJpHl (s : State) : Result := perform 0 jpHlTicks s

/-! The rows of rule R274. -/

def execJrE8 (e : Byte) (s : State) : Result := perform 1 (jrTicks e) s

/-! The rows of rule R275. -/

def execJrNzE8 (e : Byte) (s : State) : Result := perform 1 (jrCcTicks .nz e) s
def execJrZE8 (e : Byte) (s : State) : Result := perform 1 (jrCcTicks .z e) s
def execJrNcE8 (e : Byte) (s : State) : Result := perform 1 (jrCcTicks .nc e) s
def execJrCE8 (e : Byte) (s : State) : Result := perform 1 (jrCcTicks .c e) s

/-! The rows of rule R276. -/

def execCallN16 (nn : Word) (s : State) : Result := perform 2 (callTicks nn) s

/-! The rows of rule R277. -/

def execCallNzN16 (nn : Word) (s : State) : Result := perform 2 (callCcTicks .nz nn) s
def execCallZN16 (nn : Word) (s : State) : Result := perform 2 (callCcTicks .z nn) s
def execCallNcN16 (nn : Word) (s : State) : Result := perform 2 (callCcTicks .nc nn) s
def execCallCN16 (nn : Word) (s : State) : Result := perform 2 (callCcTicks .c nn) s

/-! The rows of rule R278. -/

def execRet (s : State) : Result := perform 0 retTicks s

/-! The rows of rule R279. -/

def execRetNz (s : State) : Result := perform 0 (retCcTicks .nz) s
def execRetZ (s : State) : Result := perform 0 (retCcTicks .z) s
def execRetNc (s : State) : Result := perform 0 (retCcTicks .nc) s
def execRetC (s : State) : Result := perform 0 (retCcTicks .c) s

/-! The rows of rule R280. -/

def execReti (s : State) : Result := perform 0 retiTicks s

/-! The rows of rule R281. -/

def execRst00 (s : State) : Result := perform 0 (rstTicks 0) s
def execRst08 (s : State) : Result := perform 0 (rstTicks 1) s
def execRst10 (s : State) : Result := perform 0 (rstTicks 2) s
def execRst18 (s : State) : Result := perform 0 (rstTicks 3) s
def execRst20 (s : State) : Result := perform 0 (rstTicks 4) s
def execRst28 (s : State) : Result := perform 0 (rstTicks 5) s
def execRst30 (s : State) : Result := perform 0 (rstTicks 6) s
def execRst38 (s : State) : Result := perform 0 (rstTicks 7) s

end Sys2Proof.Machine
end

