-- ==== Sys2Proof/Machine/Load.lean ====
section
/-! DEFINITION. Loads, stores and the stack (spec 43_loads.md R230 to R251). The ticks of each class follow its cycle table;
the cycles before the one that reads the instruction's last byte only read immediates, and the fetch performs them
(Ops.lean, `fetchInstr`; log 15). One `exec` definition per row of the opcode table. -/

namespace Sys2Proof.Machine

/-! ### Ticks of the load classes -/

/-- LD r,r' (R230). -/
def ldRRTicks (dst src : R8) : Ticks
  | 0, l, s => .last ((s.set8 dst (s.regs.get8 src)).advancePc 1) l
  | _, l, s => .last s l

/-- LD r,n8 (R231). -/
def ldRNTicks (dst : R8) (n : Byte) : Ticks
  | 0, l, s => .more s l
  | 1, l, s => .last ((s.advancePc 2).set8 dst n) l
  | _, l, s => .last s l

/-- LD r,(HL) (R232). -/
def ldRMemHlTicks (dst : R8) : Ticks
  | 0, l, s => .more (s.advancePc 1) l
  | 1, l, s => .last (s.set8 dst (cpuRead s s.regs.hl)) l
  | _, l, s => .last s l

/-- LD (HL),r (R234). -/
def ldMemHlRTicks (src : R8) : Ticks
  | 0, l, s => .more (s.advancePc 1) l
  | 1, l, s => .last (cpuWrite s s.regs.hl (s.regs.get8 src)) l
  | _, l, s => .last s l

/-- LD (HL),n8 (R236). -/
def ldMemHlNTicks (n : Byte) : Ticks
  | 0, l, s => .more s l
  | 1, l, s => .more (s.advancePc 2) l
  | 2, l, s => .last (cpuWrite s s.regs.hl n) l
  | _, l, s => .last s l

/-- LD A,(BC), LD A,(DE), LD A,(HL+), LD A,(HL-): the transfer, then the update of HL (R233, R237). -/
def ldAIndTicks (m : Ptr) : Ticks
  | 0, l, s => .more (s.advancePc 1) l
  | 1, l, s =>
    let s' := s.set8 .a (cpuRead s (s.regs.ptrAddr m))
    .last (s'.setRegs (s'.regs.ptrUpdate m)) l
  | _, l, s => .last s l

/-- LD (BC),A, LD (DE),A, LD (HL+),A, LD (HL-),A: the transfer, then the update of HL (R235, R238). -/
def ldIndATicks (m : Ptr) : Ticks
  | 0, l, s => .more (s.advancePc 1) l
  | 1, l, s =>
    let s' := cpuWrite s (s.regs.ptrAddr m) s.regs.a
    .last (s'.setRegs (s'.regs.ptrUpdate m)) l
  | _, l, s => .last s l

/-- LD A,(nn) (R239). -/
def ldAAbsTicks (nn : Word) : Ticks
  | 0, l, s => .more s l
  | 1, l, s => .more s l
  | 2, l, s => .more (s.advancePc 3) l
  | 3, l, s => .last (s.set8 .a (cpuRead s nn)) l
  | _, l, s => .last s l

/-- LD (nn),A (R240). -/
def ldAbsATicks (nn : Word) : Ticks
  | 0, l, s => .more s l
  | 1, l, s => .more s l
  | 2, l, s => .more (s.advancePc 3) l
  | 3, l, s => .last (cpuWrite s nn s.regs.a) l
  | _, l, s => .last s l

/-- LDH A,(n8) (R241). -/
def ldhANTicks (n : Byte) : Ticks
  | 0, l, s => .more s l
  | 1, l, s => .more (s.advancePc 2) l
  | 2, l, s => .last (s.set8 .a (cpuRead s (highPage n))) l
  | _, l, s => .last s l

/-- LDH (n8),A (R242). -/
def ldhNATicks (n : Byte) : Ticks
  | 0, l, s => .more s l
  | 1, l, s => .more (s.advancePc 2) l
  | 2, l, s => .last (cpuWrite s (highPage n) s.regs.a) l
  | _, l, s => .last s l

/-- LD A,(C) (R243). -/
def ldAMemCTicks : Ticks
  | 0, l, s => .more (s.advancePc 1) l
  | 1, l, s => .last (s.set8 .a (cpuRead s (highPage s.regs.c))) l
  | _, l, s => .last s l

/-- LD (C),A (R244). -/
def ldMemCATicks : Ticks
  | 0, l, s => .more (s.advancePc 1) l
  | 1, l, s => .last (cpuWrite s (highPage s.regs.c) s.regs.a) l
  | _, l, s => .last s l

/-- LD rr,nn: the pair is written once, in c3 (R245). -/
def ldRRNTicks (p : R16) (nn : Word) : Ticks
  | 0, l, s => .more s l
  | 1, l, s => .more s l
  | 2, l, s => let s' := s.advancePc 3; .last (s'.setRegs (s'.regs.set16 p nn)) l
  | _, l, s => .last s l

/-- LD (nn),SP: low byte at nn, then high byte at nn+1 (R246). -/
def ldAbsSpTicks (nn : Word) : Ticks
  | 0, l, s => .more s l
  | 1, l, s => .more s l
  | 2, l, s => .more (s.advancePc 3) l
  | 3, l, s => .more (cpuWrite s nn (loByte s.regs.sp)) l
  | 4, l, s => .last (cpuWrite s (nn + 1) (hiByte s.regs.sp)) l
  | _, l, s => .last s l

/-- LD SP,HL (R247). -/
def ldSpHlTicks : Ticks
  | 0, l, s => .more (s.advancePc 1) l
  | 1, l, s => .last (s.setSp s.regs.hl) l
  | _, l, s => .last s l

/-- LD HL,SP+e8: HL and the flags from `spadd(SP, e)` (R248, 41_alu.md R182). -/
def ldHlSpETicks (e : Byte) : Ticks
  | 0, l, s => .more s l
  | 1, l, s => .more (s.advancePc 2) l
  | 2, l, s => .last (s.setRegs ((s.regs.spaddFlags s.regs.sp e).setHl (spaddResult s.regs.sp e))) l
  | _, l, s => .last s l

/-- PUSH rr: an internal cycle, then the high byte, then the low byte (R249). -/
def pushTicks (q : R16Stk) : Ticks
  | 0, l, s => .more (s.advancePc 1) l
  | 1, l, s => .more s l
  | 2, l, s => .more (pushByte s (hiByte (s.regs.getStk q))) l
  | 3, l, s => .last (pushByte s (loByte (s.regs.getStk q))) l
  | _, l, s => .last s l

/-- POP rr: the low byte, then the high byte; POP AF forces F's low nibble to zero (R250). -/
def popTicks (q : R16Stk) : Ticks
  | 0, l, s => .more (s.advancePc 1) l
  | 1, l, s => .more s.popSp { l with lo := popByte s }
  | 2, l, s =>
    let hi := popByte s
    let s' := s.popSp
    .last (s'.setRegs (s'.regs.setStk q (joinBytes hi l.lo))) { l with hi := hi }
  | _, l, s => .last s l

/-! ### One meaning per row of the opcode table -/

/-! The rows of rule R230. -/

def execLdBB (s : State) : Result := perform 0 (ldRRTicks .b .b) s
def execLdBC (s : State) : Result := perform 0 (ldRRTicks .b .c) s
def execLdBD (s : State) : Result := perform 0 (ldRRTicks .b .d) s
def execLdBE (s : State) : Result := perform 0 (ldRRTicks .b .e) s
def execLdBH (s : State) : Result := perform 0 (ldRRTicks .b .h) s
def execLdBL (s : State) : Result := perform 0 (ldRRTicks .b .l) s
def execLdBA (s : State) : Result := perform 0 (ldRRTicks .b .a) s
def execLdCB (s : State) : Result := perform 0 (ldRRTicks .c .b) s
def execLdCC (s : State) : Result := perform 0 (ldRRTicks .c .c) s
def execLdCD (s : State) : Result := perform 0 (ldRRTicks .c .d) s
def execLdCE (s : State) : Result := perform 0 (ldRRTicks .c .e) s
def execLdCH (s : State) : Result := perform 0 (ldRRTicks .c .h) s
def execLdCL (s : State) : Result := perform 0 (ldRRTicks .c .l) s
def execLdCA (s : State) : Result := perform 0 (ldRRTicks .c .a) s
def execLdDB (s : State) : Result := perform 0 (ldRRTicks .d .b) s
def execLdDC (s : State) : Result := perform 0 (ldRRTicks .d .c) s
def execLdDD (s : State) : Result := perform 0 (ldRRTicks .d .d) s
def execLdDE (s : State) : Result := perform 0 (ldRRTicks .d .e) s
def execLdDH (s : State) : Result := perform 0 (ldRRTicks .d .h) s
def execLdDL (s : State) : Result := perform 0 (ldRRTicks .d .l) s
def execLdDA (s : State) : Result := perform 0 (ldRRTicks .d .a) s
def execLdEB (s : State) : Result := perform 0 (ldRRTicks .e .b) s
def execLdEC (s : State) : Result := perform 0 (ldRRTicks .e .c) s
def execLdED (s : State) : Result := perform 0 (ldRRTicks .e .d) s
def execLdEE (s : State) : Result := perform 0 (ldRRTicks .e .e) s
def execLdEH (s : State) : Result := perform 0 (ldRRTicks .e .h) s
def execLdEL (s : State) : Result := perform 0 (ldRRTicks .e .l) s
def execLdEA (s : State) : Result := perform 0 (ldRRTicks .e .a) s
def execLdHB (s : State) : Result := perform 0 (ldRRTicks .h .b) s
def execLdHC (s : State) : Result := perform 0 (ldRRTicks .h .c) s
def execLdHD (s : State) : Result := perform 0 (ldRRTicks .h .d) s
def execLdHE (s : State) : Result := perform 0 (ldRRTicks .h .e) s
def execLdHH (s : State) : Result := perform 0 (ldRRTicks .h .h) s
def execLdHL (s : State) : Result := perform 0 (ldRRTicks .h .l) s
def execLdHA (s : State) : Result := perform 0 (ldRRTicks .h .a) s
def execLdLB (s : State) : Result := perform 0 (ldRRTicks .l .b) s
def execLdLC (s : State) : Result := perform 0 (ldRRTicks .l .c) s
def execLdLD (s : State) : Result := perform 0 (ldRRTicks .l .d) s
def execLdLE (s : State) : Result := perform 0 (ldRRTicks .l .e) s
def execLdLH (s : State) : Result := perform 0 (ldRRTicks .l .h) s
def execLdLL (s : State) : Result := perform 0 (ldRRTicks .l .l) s
def execLdLA (s : State) : Result := perform 0 (ldRRTicks .l .a) s
def execLdAB (s : State) : Result := perform 0 (ldRRTicks .a .b) s
def execLdAC (s : State) : Result := perform 0 (ldRRTicks .a .c) s
def execLdAD (s : State) : Result := perform 0 (ldRRTicks .a .d) s
def execLdAE (s : State) : Result := perform 0 (ldRRTicks .a .e) s
def execLdAH (s : State) : Result := perform 0 (ldRRTicks .a .h) s
def execLdAL (s : State) : Result := perform 0 (ldRRTicks .a .l) s
def execLdAA (s : State) : Result := perform 0 (ldRRTicks .a .a) s

/-! The rows of rule R231. -/

def execLdBN8 (n : Byte) (s : State) : Result := perform 1 (ldRNTicks .b n) s
def execLdCN8 (n : Byte) (s : State) : Result := perform 1 (ldRNTicks .c n) s
def execLdDN8 (n : Byte) (s : State) : Result := perform 1 (ldRNTicks .d n) s
def execLdEN8 (n : Byte) (s : State) : Result := perform 1 (ldRNTicks .e n) s
def execLdHN8 (n : Byte) (s : State) : Result := perform 1 (ldRNTicks .h n) s
def execLdLN8 (n : Byte) (s : State) : Result := perform 1 (ldRNTicks .l n) s
def execLdAN8 (n : Byte) (s : State) : Result := perform 1 (ldRNTicks .a n) s

/-! The rows of rule R232. -/

def execLdBMemHl (s : State) : Result := perform 0 (ldRMemHlTicks .b) s
def execLdCMemHl (s : State) : Result := perform 0 (ldRMemHlTicks .c) s
def execLdDMemHl (s : State) : Result := perform 0 (ldRMemHlTicks .d) s
def execLdEMemHl (s : State) : Result := perform 0 (ldRMemHlTicks .e) s
def execLdHMemHl (s : State) : Result := perform 0 (ldRMemHlTicks .h) s
def execLdLMemHl (s : State) : Result := perform 0 (ldRMemHlTicks .l) s
def execLdAMemHl (s : State) : Result := perform 0 (ldRMemHlTicks .a) s

/-! The rows of rule R233. -/

def execLdAMemBc (s : State) : Result := perform 0 (ldAIndTicks .bc) s
def execLdAMemDe (s : State) : Result := perform 0 (ldAIndTicks .de) s

/-! The rows of rule R234. -/

def execLdMemHlB (s : State) : Result := perform 0 (ldMemHlRTicks .b) s
def execLdMemHlC (s : State) : Result := perform 0 (ldMemHlRTicks .c) s
def execLdMemHlD (s : State) : Result := perform 0 (ldMemHlRTicks .d) s
def execLdMemHlE (s : State) : Result := perform 0 (ldMemHlRTicks .e) s
def execLdMemHlH (s : State) : Result := perform 0 (ldMemHlRTicks .h) s
def execLdMemHlL (s : State) : Result := perform 0 (ldMemHlRTicks .l) s
def execLdMemHlA (s : State) : Result := perform 0 (ldMemHlRTicks .a) s

/-! The rows of rule R235. -/

def execLdMemBcA (s : State) : Result := perform 0 (ldIndATicks .bc) s
def execLdMemDeA (s : State) : Result := perform 0 (ldIndATicks .de) s

/-! The rows of rule R236. -/

def execLdMemHlN8 (n : Byte) (s : State) : Result := perform 1 (ldMemHlNTicks n) s

/-! The rows of rule R237. -/

def execLdAMemHlInc (s : State) : Result := perform 0 (ldAIndTicks .hlInc) s
def execLdAMemHlDec (s : State) : Result := perform 0 (ldAIndTicks .hlDec) s

/-! The rows of rule R238. -/

def execLdMemHlIncA (s : State) : Result := perform 0 (ldIndATicks .hlInc) s
def execLdMemHlDecA (s : State) : Result := perform 0 (ldIndATicks .hlDec) s

/-! The rows of rule R239. -/

def execLdAMemN16 (nn : Word) (s : State) : Result := perform 2 (ldAAbsTicks nn) s

/-! The rows of rule R240. -/

def execLdMemN16A (nn : Word) (s : State) : Result := perform 2 (ldAbsATicks nn) s

/-! The rows of rule R241. -/

def execLdhAMemN8 (n : Byte) (s : State) : Result := perform 1 (ldhANTicks n) s

/-! The rows of rule R242. -/

def execLdhMemN8A (n : Byte) (s : State) : Result := perform 1 (ldhNATicks n) s

/-! The rows of rule R243. -/

def execLdAMemC (s : State) : Result := perform 0 ldAMemCTicks s

/-! The rows of rule R244. -/

def execLdMemCA (s : State) : Result := perform 0 ldMemCATicks s

/-! The rows of rule R245. -/

def execLdBcN16 (nn : Word) (s : State) : Result := perform 2 (ldRRNTicks .bc nn) s
def execLdDeN16 (nn : Word) (s : State) : Result := perform 2 (ldRRNTicks .de nn) s
def execLdHlN16 (nn : Word) (s : State) : Result := perform 2 (ldRRNTicks .hl nn) s
def execLdSpN16 (nn : Word) (s : State) : Result := perform 2 (ldRRNTicks .sp nn) s

/-! The rows of rule R246. -/

def execLdMemN16Sp (nn : Word) (s : State) : Result := perform 2 (ldAbsSpTicks nn) s

/-! The rows of rule R247. -/

def execLdSpHl (s : State) : Result := perform 0 ldSpHlTicks s

/-! The rows of rule R248. -/

def execLdHlSpE8 (e : Byte) (s : State) : Result := perform 1 (ldHlSpETicks e) s

/-! The rows of rule R249. -/

def execPushBc (s : State) : Result := perform 0 (pushTicks .bc) s
def execPushDe (s : State) : Result := perform 0 (pushTicks .de) s
def execPushHl (s : State) : Result := perform 0 (pushTicks .hl) s
def execPushAf (s : State) : Result := perform 0 (pushTicks .af) s

/-! The rows of rule R250. -/

def execPopBc (s : State) : Result := perform 0 (popTicks .bc) s
def execPopDe (s : State) : Result := perform 0 (popTicks .de) s
def execPopHl (s : State) : Result := perform 0 (popTicks .hl) s
def execPopAf (s : State) : Result := perform 0 (popTicks .af) s

end Sys2Proof.Machine
end

