-- ==== Sys2Proof/Machine/Rotate.lean ====
section
/-! DEFINITION. Rotates, shifts and bit instructions (spec 42_rotate_shift_bit.md R200 to R216). A CB instruction's first
tick is the trampoline's, which has read both bytes (R204, 45_system.md R305). One `exec` definition per row of the
opcode table. -/

namespace Sys2Proof.Machine

/-! ### Ticks of the rotate and bit classes -/

/-- RLCA, RRCA, RLA, RRA (R200 to R203). -/
def rotATicks (k : RotOp) : Ticks
  | 0, l, s =>
    let v := s.regs.a
    let r := ({ s.regs with a := rotResult k v s.regs.cf } : Regs)
    .last ((s.setRegs (r.rotAFlags k v)).advancePc 1) l
  | _, l, s => .last s l

/-- The register form of a CB instruction: c2 maps the register file (R204). -/
def cbRegTicks (f : Regs → Regs) : Ticks
  | 0, l, s => .more (s.advancePc 2) l
  | 1, l, s => .last (s.setRegs (f s.regs)) l
  | _, l, s => .last s l

/-- The read-modify-write (HL) form of a CB instruction: an internal cycle, the read, then the write and the flags
(R204). `res` is the byte written and `flags` the register file after, from the byte read. -/
def cbMemTicks (res : Regs → Byte → Byte) (flags : Regs → Byte → Regs) : Ticks
  | 0, l, s => .more (s.advancePc 2) l
  | 1, l, s => .more s l
  | 2, l, s => .more s { l with n := cpuRead s s.regs.hl }
  | 3, l, s =>
    let s' := cpuWrite s s.regs.hl (res s.regs l.n)
    .last (s'.setRegs (flags s'.regs l.n)) { l with res := res s.regs l.n }
  | _, l, s => .last s l

/-- RLC, RRC, RL, RR, SLA, SRA, SWAP, SRL r (R205 to R212). -/
def rotRTicks (k : RotOp) (r : R8) : Ticks :=
  cbRegTicks fun g => (g.rotFlags k (g.get8 r)).set8 r (rotResult k (g.get8 r) g.cf)

/-- RLC, RRC, RL, RR, SLA, SRA, SWAP, SRL (HL) (R205 to R212). -/
def rotMemHlTicks (k : RotOp) : Ticks :=
  cbMemTicks (fun g v => rotResult k v g.cf) (fun g v => g.rotFlags k v)

/-- BIT b,r (R213). -/
def bitRTicks (b : Fin 8) (r : R8) : Ticks := cbRegTicks fun g => g.bitFlags b (g.get8 r)

/-- BIT b,(HL): an internal cycle, then the read and the flags; no write cycle (R213, R204). -/
def bitMemHlTicks (b : Fin 8) : Ticks
  | 0, l, s => .more (s.advancePc 2) l
  | 1, l, s => .more s l
  | 2, l, s =>
    let n := cpuRead s s.regs.hl
    .last (s.setRegs (s.regs.bitFlags b n)) { l with n := n }
  | _, l, s => .last s l

/-- RES b,r (R214). -/
def resRTicks (b : Fin 8) (r : R8) : Ticks := cbRegTicks fun g => g.set8 r (resBit b (g.get8 r))

/-- RES b,(HL) (R214). -/
def resMemHlTicks (b : Fin 8) : Ticks := cbMemTicks (fun _ v => resBit b v) (fun g _ => g)

/-- SET b,r (R215). -/
def setRTicks (b : Fin 8) (r : R8) : Ticks := cbRegTicks fun g => g.set8 r (setBit b (g.get8 r))

/-- SET b,(HL) (R215). -/
def setMemHlTicks (b : Fin 8) : Ticks := cbMemTicks (fun _ v => setBit b v) (fun g _ => g)

/-! ### One meaning per row of the opcode table -/

/-! The rows of rule R200. -/

def execRlca (s : State) : Result := perform 0 (rotATicks .rlc) s

/-! The rows of rule R201. -/

def execRrca (s : State) : Result := perform 0 (rotATicks .rrc) s

/-! The rows of rule R202. -/

def execRla (s : State) : Result := perform 0 (rotATicks .rl) s

/-! The rows of rule R203. -/

def execRra (s : State) : Result := perform 0 (rotATicks .rr) s

/-! The rows of rule R205. -/

def execRlcB (s : State) : Result := perform 0 (rotRTicks .rlc .b) s
def execRlcC (s : State) : Result := perform 0 (rotRTicks .rlc .c) s
def execRlcD (s : State) : Result := perform 0 (rotRTicks .rlc .d) s
def execRlcE (s : State) : Result := perform 0 (rotRTicks .rlc .e) s
def execRlcH (s : State) : Result := perform 0 (rotRTicks .rlc .h) s
def execRlcL (s : State) : Result := perform 0 (rotRTicks .rlc .l) s
def execRlcMemHl (s : State) : Result := perform 0 (rotMemHlTicks .rlc) s
def execRlcA (s : State) : Result := perform 0 (rotRTicks .rlc .a) s

/-! The rows of rule R206. -/

def execRrcB (s : State) : Result := perform 0 (rotRTicks .rrc .b) s
def execRrcC (s : State) : Result := perform 0 (rotRTicks .rrc .c) s
def execRrcD (s : State) : Result := perform 0 (rotRTicks .rrc .d) s
def execRrcE (s : State) : Result := perform 0 (rotRTicks .rrc .e) s
def execRrcH (s : State) : Result := perform 0 (rotRTicks .rrc .h) s
def execRrcL (s : State) : Result := perform 0 (rotRTicks .rrc .l) s
def execRrcMemHl (s : State) : Result := perform 0 (rotMemHlTicks .rrc) s
def execRrcA (s : State) : Result := perform 0 (rotRTicks .rrc .a) s

/-! The rows of rule R207. -/

def execRlB (s : State) : Result := perform 0 (rotRTicks .rl .b) s
def execRlC (s : State) : Result := perform 0 (rotRTicks .rl .c) s
def execRlD (s : State) : Result := perform 0 (rotRTicks .rl .d) s
def execRlE (s : State) : Result := perform 0 (rotRTicks .rl .e) s
def execRlH (s : State) : Result := perform 0 (rotRTicks .rl .h) s
def execRlL (s : State) : Result := perform 0 (rotRTicks .rl .l) s
def execRlMemHl (s : State) : Result := perform 0 (rotMemHlTicks .rl) s
def execRlA (s : State) : Result := perform 0 (rotRTicks .rl .a) s

/-! The rows of rule R208. -/

def execRrB (s : State) : Result := perform 0 (rotRTicks .rr .b) s
def execRrC (s : State) : Result := perform 0 (rotRTicks .rr .c) s
def execRrD (s : State) : Result := perform 0 (rotRTicks .rr .d) s
def execRrE (s : State) : Result := perform 0 (rotRTicks .rr .e) s
def execRrH (s : State) : Result := perform 0 (rotRTicks .rr .h) s
def execRrL (s : State) : Result := perform 0 (rotRTicks .rr .l) s
def execRrMemHl (s : State) : Result := perform 0 (rotMemHlTicks .rr) s
def execRrA (s : State) : Result := perform 0 (rotRTicks .rr .a) s

/-! The rows of rule R209. -/

def execSlaB (s : State) : Result := perform 0 (rotRTicks .sla .b) s
def execSlaC (s : State) : Result := perform 0 (rotRTicks .sla .c) s
def execSlaD (s : State) : Result := perform 0 (rotRTicks .sla .d) s
def execSlaE (s : State) : Result := perform 0 (rotRTicks .sla .e) s
def execSlaH (s : State) : Result := perform 0 (rotRTicks .sla .h) s
def execSlaL (s : State) : Result := perform 0 (rotRTicks .sla .l) s
def execSlaMemHl (s : State) : Result := perform 0 (rotMemHlTicks .sla) s
def execSlaA (s : State) : Result := perform 0 (rotRTicks .sla .a) s

/-! The rows of rule R210. -/

def execSraB (s : State) : Result := perform 0 (rotRTicks .sra .b) s
def execSraC (s : State) : Result := perform 0 (rotRTicks .sra .c) s
def execSraD (s : State) : Result := perform 0 (rotRTicks .sra .d) s
def execSraE (s : State) : Result := perform 0 (rotRTicks .sra .e) s
def execSraH (s : State) : Result := perform 0 (rotRTicks .sra .h) s
def execSraL (s : State) : Result := perform 0 (rotRTicks .sra .l) s
def execSraMemHl (s : State) : Result := perform 0 (rotMemHlTicks .sra) s
def execSraA (s : State) : Result := perform 0 (rotRTicks .sra .a) s

/-! The rows of rule R211. -/

def execSwapB (s : State) : Result := perform 0 (rotRTicks .swap .b) s
def execSwapC (s : State) : Result := perform 0 (rotRTicks .swap .c) s
def execSwapD (s : State) : Result := perform 0 (rotRTicks .swap .d) s
def execSwapE (s : State) : Result := perform 0 (rotRTicks .swap .e) s
def execSwapH (s : State) : Result := perform 0 (rotRTicks .swap .h) s
def execSwapL (s : State) : Result := perform 0 (rotRTicks .swap .l) s
def execSwapMemHl (s : State) : Result := perform 0 (rotMemHlTicks .swap) s
def execSwapA (s : State) : Result := perform 0 (rotRTicks .swap .a) s

/-! The rows of rule R212. -/

def execSrlB (s : State) : Result := perform 0 (rotRTicks .srl .b) s
def execSrlC (s : State) : Result := perform 0 (rotRTicks .srl .c) s
def execSrlD (s : State) : Result := perform 0 (rotRTicks .srl .d) s
def execSrlE (s : State) : Result := perform 0 (rotRTicks .srl .e) s
def execSrlH (s : State) : Result := perform 0 (rotRTicks .srl .h) s
def execSrlL (s : State) : Result := perform 0 (rotRTicks .srl .l) s
def execSrlMemHl (s : State) : Result := perform 0 (rotMemHlTicks .srl) s
def execSrlA (s : State) : Result := perform 0 (rotRTicks .srl .a) s

/-! The rows of rule R213. -/

def execBit0B (s : State) : Result := perform 0 (bitRTicks 0 .b) s
def execBit0C (s : State) : Result := perform 0 (bitRTicks 0 .c) s
def execBit0D (s : State) : Result := perform 0 (bitRTicks 0 .d) s
def execBit0E (s : State) : Result := perform 0 (bitRTicks 0 .e) s
def execBit0H (s : State) : Result := perform 0 (bitRTicks 0 .h) s
def execBit0L (s : State) : Result := perform 0 (bitRTicks 0 .l) s
def execBit0MemHl (s : State) : Result := perform 0 (bitMemHlTicks 0) s
def execBit0A (s : State) : Result := perform 0 (bitRTicks 0 .a) s
def execBit1B (s : State) : Result := perform 0 (bitRTicks 1 .b) s
def execBit1C (s : State) : Result := perform 0 (bitRTicks 1 .c) s
def execBit1D (s : State) : Result := perform 0 (bitRTicks 1 .d) s
def execBit1E (s : State) : Result := perform 0 (bitRTicks 1 .e) s
def execBit1H (s : State) : Result := perform 0 (bitRTicks 1 .h) s
def execBit1L (s : State) : Result := perform 0 (bitRTicks 1 .l) s
def execBit1MemHl (s : State) : Result := perform 0 (bitMemHlTicks 1) s
def execBit1A (s : State) : Result := perform 0 (bitRTicks 1 .a) s
def execBit2B (s : State) : Result := perform 0 (bitRTicks 2 .b) s
def execBit2C (s : State) : Result := perform 0 (bitRTicks 2 .c) s
def execBit2D (s : State) : Result := perform 0 (bitRTicks 2 .d) s
def execBit2E (s : State) : Result := perform 0 (bitRTicks 2 .e) s
def execBit2H (s : State) : Result := perform 0 (bitRTicks 2 .h) s
def execBit2L (s : State) : Result := perform 0 (bitRTicks 2 .l) s
def execBit2MemHl (s : State) : Result := perform 0 (bitMemHlTicks 2) s
def execBit2A (s : State) : Result := perform 0 (bitRTicks 2 .a) s
def execBit3B (s : State) : Result := perform 0 (bitRTicks 3 .b) s
def execBit3C (s : State) : Result := perform 0 (bitRTicks 3 .c) s
def execBit3D (s : State) : Result := perform 0 (bitRTicks 3 .d) s
def execBit3E (s : State) : Result := perform 0 (bitRTicks 3 .e) s
def execBit3H (s : State) : Result := perform 0 (bitRTicks 3 .h) s
def execBit3L (s : State) : Result := perform 0 (bitRTicks 3 .l) s
def execBit3MemHl (s : State) : Result := perform 0 (bitMemHlTicks 3) s
def execBit3A (s : State) : Result := perform 0 (bitRTicks 3 .a) s
def execBit4B (s : State) : Result := perform 0 (bitRTicks 4 .b) s
def execBit4C (s : State) : Result := perform 0 (bitRTicks 4 .c) s
def execBit4D (s : State) : Result := perform 0 (bitRTicks 4 .d) s
def execBit4E (s : State) : Result := perform 0 (bitRTicks 4 .e) s
def execBit4H (s : State) : Result := perform 0 (bitRTicks 4 .h) s
def execBit4L (s : State) : Result := perform 0 (bitRTicks 4 .l) s
def execBit4MemHl (s : State) : Result := perform 0 (bitMemHlTicks 4) s
def execBit4A (s : State) : Result := perform 0 (bitRTicks 4 .a) s
def execBit5B (s : State) : Result := perform 0 (bitRTicks 5 .b) s
def execBit5C (s : State) : Result := perform 0 (bitRTicks 5 .c) s
def execBit5D (s : State) : Result := perform 0 (bitRTicks 5 .d) s
def execBit5E (s : State) : Result := perform 0 (bitRTicks 5 .e) s
def execBit5H (s : State) : Result := perform 0 (bitRTicks 5 .h) s
def execBit5L (s : State) : Result := perform 0 (bitRTicks 5 .l) s
def execBit5MemHl (s : State) : Result := perform 0 (bitMemHlTicks 5) s
def execBit5A (s : State) : Result := perform 0 (bitRTicks 5 .a) s
def execBit6B (s : State) : Result := perform 0 (bitRTicks 6 .b) s
def execBit6C (s : State) : Result := perform 0 (bitRTicks 6 .c) s
def execBit6D (s : State) : Result := perform 0 (bitRTicks 6 .d) s
def execBit6E (s : State) : Result := perform 0 (bitRTicks 6 .e) s
def execBit6H (s : State) : Result := perform 0 (bitRTicks 6 .h) s
def execBit6L (s : State) : Result := perform 0 (bitRTicks 6 .l) s
def execBit6MemHl (s : State) : Result := perform 0 (bitMemHlTicks 6) s
def execBit6A (s : State) : Result := perform 0 (bitRTicks 6 .a) s
def execBit7B (s : State) : Result := perform 0 (bitRTicks 7 .b) s
def execBit7C (s : State) : Result := perform 0 (bitRTicks 7 .c) s
def execBit7D (s : State) : Result := perform 0 (bitRTicks 7 .d) s
def execBit7E (s : State) : Result := perform 0 (bitRTicks 7 .e) s
def execBit7H (s : State) : Result := perform 0 (bitRTicks 7 .h) s
def execBit7L (s : State) : Result := perform 0 (bitRTicks 7 .l) s
def execBit7MemHl (s : State) : Result := perform 0 (bitMemHlTicks 7) s
def execBit7A (s : State) : Result := perform 0 (bitRTicks 7 .a) s

/-! The rows of rule R214. -/

def execRes0B (s : State) : Result := perform 0 (resRTicks 0 .b) s
def execRes0C (s : State) : Result := perform 0 (resRTicks 0 .c) s
def execRes0D (s : State) : Result := perform 0 (resRTicks 0 .d) s
def execRes0E (s : State) : Result := perform 0 (resRTicks 0 .e) s
def execRes0H (s : State) : Result := perform 0 (resRTicks 0 .h) s
def execRes0L (s : State) : Result := perform 0 (resRTicks 0 .l) s
def execRes0MemHl (s : State) : Result := perform 0 (resMemHlTicks 0) s
def execRes0A (s : State) : Result := perform 0 (resRTicks 0 .a) s
def execRes1B (s : State) : Result := perform 0 (resRTicks 1 .b) s
def execRes1C (s : State) : Result := perform 0 (resRTicks 1 .c) s
def execRes1D (s : State) : Result := perform 0 (resRTicks 1 .d) s
def execRes1E (s : State) : Result := perform 0 (resRTicks 1 .e) s
def execRes1H (s : State) : Result := perform 0 (resRTicks 1 .h) s
def execRes1L (s : State) : Result := perform 0 (resRTicks 1 .l) s
def execRes1MemHl (s : State) : Result := perform 0 (resMemHlTicks 1) s
def execRes1A (s : State) : Result := perform 0 (resRTicks 1 .a) s
def execRes2B (s : State) : Result := perform 0 (resRTicks 2 .b) s
def execRes2C (s : State) : Result := perform 0 (resRTicks 2 .c) s
def execRes2D (s : State) : Result := perform 0 (resRTicks 2 .d) s
def execRes2E (s : State) : Result := perform 0 (resRTicks 2 .e) s
def execRes2H (s : State) : Result := perform 0 (resRTicks 2 .h) s
def execRes2L (s : State) : Result := perform 0 (resRTicks 2 .l) s
def execRes2MemHl (s : State) : Result := perform 0 (resMemHlTicks 2) s
def execRes2A (s : State) : Result := perform 0 (resRTicks 2 .a) s
def execRes3B (s : State) : Result := perform 0 (resRTicks 3 .b) s
def execRes3C (s : State) : Result := perform 0 (resRTicks 3 .c) s
def execRes3D (s : State) : Result := perform 0 (resRTicks 3 .d) s
def execRes3E (s : State) : Result := perform 0 (resRTicks 3 .e) s
def execRes3H (s : State) : Result := perform 0 (resRTicks 3 .h) s
def execRes3L (s : State) : Result := perform 0 (resRTicks 3 .l) s
def execRes3MemHl (s : State) : Result := perform 0 (resMemHlTicks 3) s
def execRes3A (s : State) : Result := perform 0 (resRTicks 3 .a) s
def execRes4B (s : State) : Result := perform 0 (resRTicks 4 .b) s
def execRes4C (s : State) : Result := perform 0 (resRTicks 4 .c) s
def execRes4D (s : State) : Result := perform 0 (resRTicks 4 .d) s
def execRes4E (s : State) : Result := perform 0 (resRTicks 4 .e) s
def execRes4H (s : State) : Result := perform 0 (resRTicks 4 .h) s
def execRes4L (s : State) : Result := perform 0 (resRTicks 4 .l) s
def execRes4MemHl (s : State) : Result := perform 0 (resMemHlTicks 4) s
def execRes4A (s : State) : Result := perform 0 (resRTicks 4 .a) s
def execRes5B (s : State) : Result := perform 0 (resRTicks 5 .b) s
def execRes5C (s : State) : Result := perform 0 (resRTicks 5 .c) s
def execRes5D (s : State) : Result := perform 0 (resRTicks 5 .d) s
def execRes5E (s : State) : Result := perform 0 (resRTicks 5 .e) s
def execRes5H (s : State) : Result := perform 0 (resRTicks 5 .h) s
def execRes5L (s : State) : Result := perform 0 (resRTicks 5 .l) s
def execRes5MemHl (s : State) : Result := perform 0 (resMemHlTicks 5) s
def execRes5A (s : State) : Result := perform 0 (resRTicks 5 .a) s
def execRes6B (s : State) : Result := perform 0 (resRTicks 6 .b) s
def execRes6C (s : State) : Result := perform 0 (resRTicks 6 .c) s
def execRes6D (s : State) : Result := perform 0 (resRTicks 6 .d) s
def execRes6E (s : State) : Result := perform 0 (resRTicks 6 .e) s
def execRes6H (s : State) : Result := perform 0 (resRTicks 6 .h) s
def execRes6L (s : State) : Result := perform 0 (resRTicks 6 .l) s
def execRes6MemHl (s : State) : Result := perform 0 (resMemHlTicks 6) s
def execRes6A (s : State) : Result := perform 0 (resRTicks 6 .a) s
def execRes7B (s : State) : Result := perform 0 (resRTicks 7 .b) s
def execRes7C (s : State) : Result := perform 0 (resRTicks 7 .c) s
def execRes7D (s : State) : Result := perform 0 (resRTicks 7 .d) s
def execRes7E (s : State) : Result := perform 0 (resRTicks 7 .e) s
def execRes7H (s : State) : Result := perform 0 (resRTicks 7 .h) s
def execRes7L (s : State) : Result := perform 0 (resRTicks 7 .l) s
def execRes7MemHl (s : State) : Result := perform 0 (resMemHlTicks 7) s
def execRes7A (s : State) : Result := perform 0 (resRTicks 7 .a) s

/-! The rows of rule R215. -/

def execSet0B (s : State) : Result := perform 0 (setRTicks 0 .b) s
def execSet0C (s : State) : Result := perform 0 (setRTicks 0 .c) s
def execSet0D (s : State) : Result := perform 0 (setRTicks 0 .d) s
def execSet0E (s : State) : Result := perform 0 (setRTicks 0 .e) s
def execSet0H (s : State) : Result := perform 0 (setRTicks 0 .h) s
def execSet0L (s : State) : Result := perform 0 (setRTicks 0 .l) s
def execSet0MemHl (s : State) : Result := perform 0 (setMemHlTicks 0) s
def execSet0A (s : State) : Result := perform 0 (setRTicks 0 .a) s
def execSet1B (s : State) : Result := perform 0 (setRTicks 1 .b) s
def execSet1C (s : State) : Result := perform 0 (setRTicks 1 .c) s
def execSet1D (s : State) : Result := perform 0 (setRTicks 1 .d) s
def execSet1E (s : State) : Result := perform 0 (setRTicks 1 .e) s
def execSet1H (s : State) : Result := perform 0 (setRTicks 1 .h) s
def execSet1L (s : State) : Result := perform 0 (setRTicks 1 .l) s
def execSet1MemHl (s : State) : Result := perform 0 (setMemHlTicks 1) s
def execSet1A (s : State) : Result := perform 0 (setRTicks 1 .a) s
def execSet2B (s : State) : Result := perform 0 (setRTicks 2 .b) s
def execSet2C (s : State) : Result := perform 0 (setRTicks 2 .c) s
def execSet2D (s : State) : Result := perform 0 (setRTicks 2 .d) s
def execSet2E (s : State) : Result := perform 0 (setRTicks 2 .e) s
def execSet2H (s : State) : Result := perform 0 (setRTicks 2 .h) s
def execSet2L (s : State) : Result := perform 0 (setRTicks 2 .l) s
def execSet2MemHl (s : State) : Result := perform 0 (setMemHlTicks 2) s
def execSet2A (s : State) : Result := perform 0 (setRTicks 2 .a) s
def execSet3B (s : State) : Result := perform 0 (setRTicks 3 .b) s
def execSet3C (s : State) : Result := perform 0 (setRTicks 3 .c) s
def execSet3D (s : State) : Result := perform 0 (setRTicks 3 .d) s
def execSet3E (s : State) : Result := perform 0 (setRTicks 3 .e) s
def execSet3H (s : State) : Result := perform 0 (setRTicks 3 .h) s
def execSet3L (s : State) : Result := perform 0 (setRTicks 3 .l) s
def execSet3MemHl (s : State) : Result := perform 0 (setMemHlTicks 3) s
def execSet3A (s : State) : Result := perform 0 (setRTicks 3 .a) s
def execSet4B (s : State) : Result := perform 0 (setRTicks 4 .b) s
def execSet4C (s : State) : Result := perform 0 (setRTicks 4 .c) s
def execSet4D (s : State) : Result := perform 0 (setRTicks 4 .d) s
def execSet4E (s : State) : Result := perform 0 (setRTicks 4 .e) s
def execSet4H (s : State) : Result := perform 0 (setRTicks 4 .h) s
def execSet4L (s : State) : Result := perform 0 (setRTicks 4 .l) s
def execSet4MemHl (s : State) : Result := perform 0 (setMemHlTicks 4) s
def execSet4A (s : State) : Result := perform 0 (setRTicks 4 .a) s
def execSet5B (s : State) : Result := perform 0 (setRTicks 5 .b) s
def execSet5C (s : State) : Result := perform 0 (setRTicks 5 .c) s
def execSet5D (s : State) : Result := perform 0 (setRTicks 5 .d) s
def execSet5E (s : State) : Result := perform 0 (setRTicks 5 .e) s
def execSet5H (s : State) : Result := perform 0 (setRTicks 5 .h) s
def execSet5L (s : State) : Result := perform 0 (setRTicks 5 .l) s
def execSet5MemHl (s : State) : Result := perform 0 (setMemHlTicks 5) s
def execSet5A (s : State) : Result := perform 0 (setRTicks 5 .a) s
def execSet6B (s : State) : Result := perform 0 (setRTicks 6 .b) s
def execSet6C (s : State) : Result := perform 0 (setRTicks 6 .c) s
def execSet6D (s : State) : Result := perform 0 (setRTicks 6 .d) s
def execSet6E (s : State) : Result := perform 0 (setRTicks 6 .e) s
def execSet6H (s : State) : Result := perform 0 (setRTicks 6 .h) s
def execSet6L (s : State) : Result := perform 0 (setRTicks 6 .l) s
def execSet6MemHl (s : State) : Result := perform 0 (setMemHlTicks 6) s
def execSet6A (s : State) : Result := perform 0 (setRTicks 6 .a) s
def execSet7B (s : State) : Result := perform 0 (setRTicks 7 .b) s
def execSet7C (s : State) : Result := perform 0 (setRTicks 7 .c) s
def execSet7D (s : State) : Result := perform 0 (setRTicks 7 .d) s
def execSet7E (s : State) : Result := perform 0 (setRTicks 7 .e) s
def execSet7H (s : State) : Result := perform 0 (setRTicks 7 .h) s
def execSet7L (s : State) : Result := perform 0 (setRTicks 7 .l) s
def execSet7MemHl (s : State) : Result := perform 0 (setMemHlTicks 7) s
def execSet7A (s : State) : Result := perform 0 (setRTicks 7 .a) s

end Sys2Proof.Machine
end

