-- ==== Sys2Proof/Machine/System.lean ====
section
/-! DEFINITION. NOP, HALT, STOP, DI, EI, the unassigned opcodes and the CB trampoline (spec 45_system.md R300 to R306), and
the ticks of every kind of instruction object (10_state.md R28). One `exec` definition per row of the opcode table. -/

namespace Sys2Proof.Machine

/-! ### Ticks of the system classes -/

/-- NOP (R300). -/
def nopTicks : Ticks
  | 0, l, s => .last (s.advancePc 1) l
  | _, l, s => .last s l

/-- HALT: HALT at every tick, or, entered with IME false and an interrupt queued, one extra cycle and FINISHED (R301). -/
def haltTicks : Ticks
  | 0, l, s =>
    let s' := s.advancePc 1
    if !s.ime && s.queued then .more s' { l with haltBug := true }
    else { state := s', latches := l, result := .halt }
  | 1, l, s => if l.haltBug then .last s l else { state := s, latches := l, result := .halt }
  | _, l, s => { state := s, latches := l, result := .halt }

/-- STOP: PC past the instruction, the whole divider counter reset, then STOP at every tick (R302). -/
def stopTicks : Ticks
  | 0, l, s =>
    let s' := s.advancePc Config.stopLength
    { state := { s' with timer := { s'.timer with sysctr := 0 } }, latches := l, result := .stop }
  | _, l, s => { state := s, latches := l, result := .stop }

/-- DI: `IME <- false` (R303). -/
def diTicks : Ticks
  | 0, l, s => .last { s.advancePc 1 with ime := false } l
  | _, l, s => .last s l

/-- EI: `IME <- true`, at once (R304). -/
def eiTicks : Ticks
  | 0, l, s => .last { s.advancePc 1 with ime := true } l
  | _, l, s => .last s l

/-- An unassigned opcode: NOP, or, in a machine launched with ILLEGAL_OPCODE_FAULT, `fault IllegalOpcode(op)` with no
instruction executed (R306). The fault outcome is the terminal faulted state: no step follows it. -/
def illegalOpcode (op : Byte) (s : State) : Result :=
  if s.illegalFault then .fault (.illegalOpcode op) else perform 0 nopTicks s

/-! ### The ticks of every kind -/

/-- The ticks of an instruction object of each kind but the bare CB trampoline, which has none of its own. -/
def tableTicks : Kind → Ticks
  | .nop => nopTicks
  | .halt => haltTicks
  | .stop => stopTicks
  | .di => diTicks
  | .ei => eiTicks
  | .illegal _ => nopTicks
  | .prefixCb => nopTicks
  | .ldRR dst src => ldRRTicks dst src
  | .ldRN dst n => ldRNTicks dst n
  | .ldRMemHl dst => ldRMemHlTicks dst
  | .ldMemHlR src => ldMemHlRTicks src
  | .ldMemHlN n => ldMemHlNTicks n
  | .ldAInd m => ldAIndTicks m
  | .ldIndA m => ldIndATicks m
  | .ldAAbs nn => ldAAbsTicks nn
  | .ldAbsA nn => ldAbsATicks nn
  | .ldhAN n => ldhANTicks n
  | .ldhNA n => ldhNATicks n
  | .ldAMemC => ldAMemCTicks
  | .ldMemCA => ldMemCATicks
  | .ldRRN p nn => ldRRNTicks p nn
  | .ldAbsSp nn => ldAbsSpTicks nn
  | .ldSpHl => ldSpHlTicks
  | .ldHlSpE e => ldHlSpETicks e
  | .push q => pushTicks q
  | .pop q => popTicks q
  | .aluR o r => aluRTicks o r
  | .aluMemHl o => aluMemHlTicks o
  | .aluN o n => aluNTicks o n
  | .incR r => incRTicks r
  | .incMemHl => incMemHlTicks
  | .decR r => decRTicks r
  | .decMemHl => decMemHlTicks
  | .incRR p => incRRTicks p
  | .decRR p => decRRTicks p
  | .addHl p => addHlTicks p
  | .addSp e => addSpTicks e
  | .daa => daaTicks
  | .cpl => cplTicks
  | .scf => scfTicks
  | .ccf => ccfTicks
  | .rotA k => rotATicks k
  | .rotR k r => rotRTicks k r
  | .rotMemHl k => rotMemHlTicks k
  | .bitR b r => bitRTicks b r
  | .bitMemHl b => bitMemHlTicks b
  | .resR b r => resRTicks b r
  | .resMemHl b => resMemHlTicks b
  | .setR b r => setRTicks b r
  | .setMemHl b => setMemHlTicks b
  | .jp nn => jpTicks nn
  | .jpCc cc nn => jpCcTicks cc nn
  | .jpHl => jpHlTicks
  | .jr e => jrTicks e
  | .jrCc cc e => jrCcTicks cc e
  | .call nn => callTicks nn
  | .callCc cc nn => callCcTicks cc nn
  | .ret => retTicks
  | .retCc cc => retCcTicks cc
  | .reti => retiTicks
  | .rst t => rstTicks t

/-- The CB trampoline: c1 reads the CB byte, advances PC by 2 and decodes the sub-instruction it owns; every later tick
is the sub-instruction's (R305). -/
def prefixCbTicks : Ticks
  | 0, l, s =>
    .more (s.advancePc 2) { l with sub := some (decodeOpcodePrefix (cpuRead s (s.regs.pc + 1))).kind }
  | n + 1, l, s =>
    match l.sub with
    | some k => tableTicks k (n + 1) l s
    | none => .last s l

/-- The ticks of an instruction object by its kind (10_state.md R28). -/
def kindTicks (k : Kind) : Ticks :=
  match k with
  | .prefixCb => prefixCbTicks
  | k => tableTicks k

/-- The immediate bytes of a kind, each read in an M-cycle of its own after the opcode's (30_encoding.md R100). -/
def immediateBytes : Kind → Nat
  | .ldRN _ _ | .ldMemHlN _ | .ldhAN _ | .ldhNA _ | .ldHlSpE _ | .aluN _ _ | .addSp _ | .jr _ | .jrCc _ _ => 1
  | .ldAAbs _ | .ldAbsA _ | .ldRRN _ _ | .ldAbsSp _ | .jp _ | .jpCc _ _ | .call _ | .callCc _ _ => 2
  | _ => 0

/-- What an instruction of a kind does, from the M-cycle that reads its last byte. -/
def performKind (k : Kind) (s : State) : Result :=
  match k with
  | .illegal op => illegalOpcode op s
  | k => perform (immediateBytes k) (kindTicks k) s

/-! ### One meaning per row of the opcode table -/

/-! The rows of rule R300. -/

def execNop (s : State) : Result := perform 0 nopTicks s

/-! The rows of rule R301. -/

def execHalt (s : State) : Result := perform 0 haltTicks s

/-! The rows of rule R302. -/

def execStop (s : State) : Result := perform 0 stopTicks s

/-! The rows of rule R303. -/

def execDi (s : State) : Result := perform 0 diTicks s

/-! The rows of rule R304. -/

def execEi (s : State) : Result := perform 0 eiTicks s

/-! The rows of rule R305. -/

def execPrefixCb (s : State) : Result := perform 0 prefixCbTicks s

/-! The rows of rule R306. -/

def execIllegalD3 (s : State) : Result := illegalOpcode 0xD3 s
def execIllegalDB (s : State) : Result := illegalOpcode 0xDB s
def execIllegalDD (s : State) : Result := illegalOpcode 0xDD s
def execIllegalE3 (s : State) : Result := illegalOpcode 0xE3 s
def execIllegalE4 (s : State) : Result := illegalOpcode 0xE4 s
def execIllegalEB (s : State) : Result := illegalOpcode 0xEB s
def execIllegalEC (s : State) : Result := illegalOpcode 0xEC s
def execIllegalED (s : State) : Result := illegalOpcode 0xED s
def execIllegalF4 (s : State) : Result := illegalOpcode 0xF4 s
def execIllegalFC (s : State) : Result := illegalOpcode 0xFC s
def execIllegalFD (s : State) : Result := illegalOpcode 0xFD s

end Sys2Proof.Machine
end

