-- ==== Sys2Proof/Machine/SystemStep.lean ====
section
/-! DEFINITION. The machine M-cycle by M-cycle: the system step of spec 40_execution_cycle.md R131, whose slot holds the
instruction object between two M-cycles of one instruction, and the register view a host sees after each CPU tick (R143).
`Step.lean`'s `step` runs to the next instruction boundary (log 1). -/

namespace Sys2Proof.Machine

/-- The slot after a tick of an object: still the object, its step advanced, when the result is RUNNING (R132, R134). -/
def slotAfter (keep : Option Obj) (r : Tick) (step : Nat) : State :=
  match r.result with
  | .running => { r.state with cur := keep }
  | .finished | .halt | .stop => retire r.result step r.latches r.state

/-- One M-cycle of an instruction object in the slot: its tick, the slot, the rest of the M-cycle. -/
def objectCycle (k : Kind) (step : Nat) (l : Latches) (s : State) : State :=
  let r := kindTicks k step l s
  endCycle r.result (slotAfter (some (.running k (step + 1) r.latches)) r step)

/-- One M-cycle of the ServiceRoutine in the slot (60_exceptions.md R324). -/
def serviceCycle (t : Irq) (step : Nat) (s : State) : State :=
  let r := serviceTicks t step .fresh s
  endCycle r.result (slotAfter (some (.service t (step + 1))) r step)

/-- An M-cycle that only reads: the object waits for its next immediate byte (R136). -/
def fetchCycle (op : Byte) (lo : Option Byte) (s : State) : State :=
  endCycle .running { s with cur := some (.fetching op lo) }

/-- The M-cycle that reads an instruction's last byte, `step` being the number of M-cycles before it; the fetch of an
unassigned opcode faults in a machine launched with ILLEGAL_OPCODE_FAULT (45_system.md R306). -/
def firstCycle (k : Kind) (step : Nat) (s : State) : Result :=
  match k with
  | .illegal op =>
    if s.illegalFault then .fault (.illegalOpcode op) else .next (objectCycle k step .fresh s)
  | k => .next (objectCycle k step .fresh s)

/-- Step 2 of the CPU tick on an empty slot, with the tick of the object it installs: 0xCB installs the trampoline,
which reads the CB byte in this same M-cycle (R130, R138, 45_system.md R305). -/
def fetchStep (s : State) : Result :=
  let op := cpuRead s s.regs.pc
  match decodeOpcode op with
  | .op i => firstCycle i.kind 0 s
  | .cbPrefix => firstCycle .prefixCb 0 s
  | .op8 _ => .next (fetchCycle op none s)
  | .op16 _ => .next (fetchCycle op none s)

/-- An M-cycle of an object whose immediate bytes are not all read. -/
def immediateStep (op : Byte) (lo : Option Byte) (s : State) : Result :=
  match lo, decodeOpcode op with
  | none, .op16 _ => .next (fetchCycle op (some (cpuRead s (s.regs.pc + 1))) s)
  | some b, .op16 mk => firstCycle (mk (joinBytes (cpuRead s (s.regs.pc + 2)) b)).kind 2 s
  | _, .op8 mk => firstCycle (mk (cpuRead s (s.regs.pc + 1))).kind 1 s
  | _, .op i => firstCycle i.kind 0 s
  | _, .cbPrefix => firstCycle .prefixCb 0 s

/-- One system step: the CPU tick of R130, the environment's move, the DMA tick (R131). -/
def systemStep (s : State) : Result :=
  match s.cur with
  | none =>
    match dueIrq s with
    | some t => .next (serviceCycle t 0 (acceptIrq t s))
    | none => fetchStep s
  | some (.fetching op lo) => immediateStep op lo s
  | some (.running k step l) => .next (objectCycle k step l s)
  | some (.service t step) => .next (serviceCycle t step s)

/-- Whether the machine is between two instructions, halted or stopped: the slot is empty or holds a HALT or STOP that
returns HALT or STOP at every tick (R132, 45_system.md R301, R302). -/
def atBoundary (s : State) : Bool :=
  match s.cur with
  | none => true
  | some (.running .halt _ l) => !l.haltBug
  | some (.running .stop _ _) => true
  | some _ => false

/-- System steps up to the next boundary, at least one and at most `fuel`. -/
def runToBoundary : Nat → State → Result
  | 0, s => .next s
  | fuel + 1, s =>
    match systemStep s with
    | .next s' => if atBoundary s' then .next s' else runToBoundary fuel s'
    | .fault r => .fault r
    | .refused r => .refused r

/-- The register file view `cpu_tick` returns (10_state.md R38, R143). -/
structure RegView where
  regs : Regs
  ime : Bool
  deriving DecidableEq, Repr

/-- The view of a state; the environment and the DMA controller change none of it (R137). -/
def State.view (s : State) : RegView := { regs := s.regs, ime := s.ime }

end Sys2Proof.Machine
end

