-- ==== Sys2Proof/Machine/Step.lean ====
section
/-! DEFINITION. One step of the machine: from an instruction boundary to the next (log 1). -/

namespace Sys2Proof.Machine

/-- One step. With an empty slot: the dispatch of a due interrupt (60_exceptions.md R325), or else the fetch and the whole
of one instruction (40_execution_cycle.md R130). With an object in the slot: that object up to its end, which for HALT and
STOP is one M-cycle (R134). -/
def step (s : State) : Host.Outcome State Fault Refusal :=
  match s.cur with
  | none =>
    match dueIrq s with
    | some t => .next (takeInterrupt t s)
    | none => exec (fetchInstr s).instr (fetchInstr s).state
  | some (.fetching op lo) => exec (resumeFetch op lo s).instr (resumeFetch op lo s).state
  | some (.running k n l) => .next (runTicks maxCycles (kindTicks k) n l s)
  | some (.service t n) => .next (runTicks maxCycles (serviceTicks t) n .fresh s)

/-- The state with the instruction of a table word stored where `step` fetches its next instruction (log 16). -/
def State.withFetchWord (s : State) (nbits w : Nat) : State := placeInstr s (tableWordBytes nbits w)

end Sys2Proof.Machine
end

