-- ==== Sys2Proof/Safety.lean ====
section
/-! DEFINITION. What a claim may assume of a state, and what counts as a safe or an ended run (spec 10_state.md R22, R33,
70_reset_and_hazards.md R395). -/

namespace Sys2Proof.Machine

/-- The cartridge's cells, where it is a static ROM, are in canonical form. -/
def Cart.wf : Cart → Bool
  | .staticRom rom => rom.wf
  | .mapper _ => true

/-- The regions whose bytes State.mem holds (10_state.md R34). -/
def isRam : Region → Bool
  | .vram | .wram | .oam | .hram => true
  | .rom | .eram | .unmapped | .io | .ie => false

/-- Every listed cell is at a RAM address (10_state.md R34). -/
def Memory.onlyRam (m : Memory) : Bool :=
  m.cells.all fun c => decide (c.1 < 65536) && isRam (region (BitVec.ofNat 16 c.1))

/-- The kinds of the CB table, the only ones the trampoline owns (45_system.md R305). -/
def isCbKind : Kind → Bool
  | .rotR _ _ | .rotMemHl _ | .bitR _ _ | .bitMemHl _ | .resR _ _ | .resMemHl _ | .setR _ _ | .setMemHl _ => true
  | _ => false

/-- The slot holds what the machine puts there: a STOP with the divider counter at 0 (60_exceptions.md R342), and a
trampoline with no sub-instruction but one of the CB table (45_system.md R305). -/
def slotLegal (s : State) : Bool :=
  match s.cur with
  | some (.running .stop _ _) => s.timer.sysctr == 0
  | some (.running .prefixCb _ l) => l.sub.all isCbKind
  | _ => true

/-- The invariant of the machine: F's low nibble is zero (R22), RAM and cartridge are in canonical form and RAM lists only
RAM addresses (R34), the DMA lock is set exactly while a transfer runs (R345), and the slot is legal. -/
structure State.Inv (s : State) : Prop where
  fLow : s.regs.f &&& 0x0F = 0
  memWf : s.mem.wf = true
  memRam : s.mem.onlyRam = true
  cartWf : s.cart.wf = true
  dmaLock : s.locks.dma = decide (s.dma.step ≠ 0)
  slot : slotLegal s = true

/-- The environment has no move to come and the DMA controller is idle with no trigger: only the CPU and the timer act. -/
structure State.Quiet (s : State) : Prop where
  envDone : s.env = []
  dmaIdle : s.dma.step = 0
  noTrigger : s.dma.trigger = 0

/-- `n` M-cycles in which the CPU does nothing: the timer, the environment and the DMA controller act
(40_execution_cycle.md R130 steps 5 to 7, R131). A claim names with it the moment of each access of an instruction. -/
def idle : Nat → State → State
  | 0, s => s
  | n + 1, s => idle n (endCycle .running s)

/-- The two pushes of a 16-bit value from SP = sp on, high byte first, one M-cycle apart, the first in state s
(43_loads.md R251). -/
def pushWord (s : State) (sp v : Word) : State :=
  cpuWrite (idle 1 (cpuWrite s (sp - 1) (hiByte v))) (sp - 2) (loByte v)

/-- The addresses an instruction kind stores to, computed from the state it runs in as its ticks compute them. -/
def tableStores (k : Kind) (s : State) : List Word :=
  match k with
  | .ldMemHlR _ | .ldMemHlN _ | .incMemHl | .decMemHl | .rotMemHl _ | .resMemHl _ | .setMemHl _ => [s.regs.hl]
  | .ldIndA m => [s.regs.ptrAddr m]
  | .ldAbsA nn => [nn]
  | .ldhNA n => [highPage n]
  | .ldMemCA => [highPage s.regs.c]
  | .ldAbsSp nn => [nn, nn + 1]
  | .push _ | .call _ | .rst _ => [s.regs.sp - 1, s.regs.sp - 2]
  | .callCc cc _ => if condHolds cc s.regs then [s.regs.sp - 1, s.regs.sp - 2] else []
  | _ => []

/-- The addresses an instruction stores to; the bare trampoline's are its sub-instruction's (45_system.md R305). -/
def storeAddrs (i : Instr) (s : State) : List Word :=
  match i.kind with
  | .prefixCb => tableStores (decodeOpcodePrefix (cpuRead s (s.regs.pc + 1))).kind s
  | k => tableStores k s

/-- The quiescent state that ends a run: the current instruction is a HALT returning HALT, `IE[4:0] = 0`, the DMA is idle
(70_reset_and_hazards.md R395). -/
def quiescent (s : State) : Bool :=
  (match s.cur with
    | some (.running .halt (_ + 1) l) => !l.haltBug
    | _ => false)
  && (s.ie.setWidth 5 == (0 : BitVec 5)) && (s.dma.step == 0)

/-- A run of at most `n` system steps that stops at the first quiescent boundary (R395). -/
def boundedRun : Nat → State → Result
  | 0, s => .next s
  | n + 1, s =>
    if quiescent s then .next s
    else
      match systemStep s with
      | .next s' => boundedRun n s'
      | .fault r => .fault r
      | .refused r => .refused r

/-- The run the host observes, cut off by the budget RUN_CYCLES (R395). -/
def observedRun (s : State) : Result := boundedRun Config.runCycles s

/-- A step is safe when it ends in a next state: the hardware has no synchronous exception (60_exceptions.md R320). -/
def stepSafe (s : State) : Prop := ∃ t, step s = .next t

end Sys2Proof.Machine
end

