-- ==== Sys2Proof/Certificates/Slice0/Obligations.lean ====
section
/-! DEFINITION. The statements for the provers, from the numbered rules of spec/, with the small vocabulary they use. A
statement about an instruction ranges over every instruction of a kind (`Instr.kind`) and gives its encoding and the whole
next state: `idle n s` is s after n M-cycles in which the CPU does nothing, and what the statement puts on top of it is all
the instruction does. -/

namespace Sys2Proof.Claims

open Sys2Proof.Machine

/-! ### The codes of the operand fields (30_encoding.md R103, R104, R105, R107, R108, R109) -/

/-- The register code r (R103). -/
def code8 : R8 → Byte
  | .b => 0 | .c => 1 | .d => 2 | .e => 3 | .h => 4 | .l => 5 | .a => 7

/-- The pair code p of LD rr, INC rr, DEC rr, ADD HL (R104). -/
def code16 : R16 → Byte
  | .bc => 0 | .de => 1 | .hl => 2 | .sp => 3

/-- The pair code p of PUSH and POP (R105). -/
def codeStk : R16Stk → Byte
  | .bc => 0 | .de => 1 | .hl => 2 | .af => 3

/-- The pair code of an LD A,(rr) or LD (rr),A form (R113). -/
def codePtr : Ptr → Byte
  | .bc => 0 | .de => 1 | .hlInc => 2 | .hlDec => 3

/-- The condition code cc (R107). -/
def codeCond : Cond → Byte
  | .nz => 0 | .z => 1 | .nc => 2 | .c => 3

/-- The ALU operation code o (R108). -/
def codeAlu : AluOp → Byte
  | .add => 0 | .adc => 1 | .sub => 2 | .sbc => 3 | .and => 4 | .xor => 5 | .or => 6 | .cp => 7

/-- The rotate and shift code k (R109). -/
def codeRot : RotOp → Byte
  | .rlc => 0 | .rrc => 1 | .rl => 2 | .rr => 3 | .sla => 4 | .sra => 5 | .swap => 6 | .srl => 7

/-- A bit number or a restart number as a field y. -/
def codeBit (b : Fin 8) : Byte := BitVec.ofNat 8 b.val

/-! ### Flags and results, in the single-step forms of the rules -/

/-- F with the four flags given and its low nibble zero (10_state.md R22). -/
def flagByte (z n h c : Bool) : Byte :=
  (if z then 0x80 else 0) + (if n then 0x40 else 0) + (if h then 0x20 else 0) + (if c then 0x10 else 0)

/-- The byte and the flags of `a + b + c`, single-step form (41_alu.md R160). -/
def sum8 (a b : Byte) (c : Bool) : Byte × Byte :=
  let r := a + b + (if c then 1 else 0)
  (r, flagByte (r = 0) false (a.toNat % 16 + b.toNat % 16 + c.toNat > 15) (a.toNat + b.toNat + c.toNat > 255))

/-- The byte and the flags of `a - b - c`, single-step form (41_alu.md R161). -/
def diff8 (a b : Byte) (c : Bool) : Byte × Byte :=
  let r := a - b - (if c then 1 else 0)
  (r, flagByte (r = 0) true (a.toNat % 16 < b.toNat % 16 + c.toNat) (a.toNat < b.toNat + c.toNat))

/-- A and F after an 8-bit operation on A and v with carry c (41_alu.md R163 to R170). -/
def aluAF (o : AluOp) (a v : Byte) (c : Bool) : Byte × Byte :=
  match o with
  | .add => sum8 a v false
  | .adc => sum8 a v c
  | .sub => diff8 a v false
  | .sbc => diff8 a v c
  | .and => (a &&& v, flagByte (a &&& v = 0) false true false)
  | .xor => (a ^^^ v, flagByte (a ^^^ v = 0) false false false)
  | .or => (a ||| v, flagByte (a ||| v = 0) false false false)
  | .cp => (a, (diff8 a v false).2)

/-- The result and the carry-out of `rot(k, v, cin)`, in arithmetic on the byte's value (42_rotate_shift_bit.md R216). -/
def rotated (k : RotOp) (v : Byte) (cin : Bool) : Byte × Bool :=
  let n := v.toNat
  match k with
  | .rlc => (BitVec.ofNat 8 (2 * n + n / 128), decide (n ≥ 128))
  | .rrc => (BitVec.ofNat 8 (n / 2 + 128 * (n % 2)), decide (n % 2 = 1))
  | .rl => (BitVec.ofNat 8 (2 * n + cin.toNat), decide (n ≥ 128))
  | .rr => (BitVec.ofNat 8 (n / 2 + 128 * cin.toNat), decide (n % 2 = 1))
  | .sla => (BitVec.ofNat 8 (2 * n), decide (n ≥ 128))
  | .sra => (BitVec.ofNat 8 (n / 2 + 128 * (n / 128)), decide (n % 2 = 1))
  | .swap => (BitVec.ofNat 8 (16 * (n % 16) + n / 16), false)
  | .srl => (BitVec.ofNat 8 (n / 2), decide (n % 2 = 1))

/-- The flags of `spadd(s, e)` (41_alu.md R182). -/
def spFlags (sp : Word) (e : Byte) : Byte :=
  flagByte false false (sp.toNat % 16 + e.toNat % 16 > 15) (sp.toNat % 256 + e.toNat > 255)

/-- A machine state in which F's low nibble is zero, as in every state of the hardware (10_state.md R22). -/
abbrev lowZero (s : State) : Prop := s.regs.f &&& 0x0F = 0

/-- The bit of an interrupt type in IF and IE (60_exceptions.md R321). -/
def irqBit : Irq → Nat
  | .vblank => 0 | .lcd => 1 | .timer => 2 | .serial => 3 | .joypad => 4

/-- `n` DMA ticks and nothing else (60_exceptions.md R345). -/
def dmaTicks : Nat → State → State
  | 0, s => s
  | n + 1, s => dmaTicks n (dmaTick s)

/-- `n` timer ticks on the timer's registers and nothing else (60_exceptions.md R336). -/
def timerTicks : Nat → Timer → Timer
  | 0, t => t
  | n + 1, t => timerTicks n t.tick

/-- The TIMA period of a clock select, in M-cycles (60_exceptions.md R337). -/
def timaPeriod (tac : BitVec 3) : Nat :=
  match tac.toNat % 4 with
  | 0 => 256
  | 1 => 4
  | 2 => 16
  | _ => 64

/-- The addresses whose reads the timer changes: DIV, TIMA and IF (20_memory.md R74). -/
def timerAddrs : List Word := [0xFF04, 0xFF05, 0xFF0F]

/-- The addresses behind which the cartridge stands (20_memory.md R61). -/
def isCart (a : Word) : Prop := region a = .rom ∨ region a = .eram

end Sys2Proof.Claims

open Sys2Proof Sys2Proof.Machine Sys2Proof.Claims

/-! ### Encoding -/

/-- Decoding what the encoder writes gives the instruction back and leaves the bytes that follow (30_encoding.md R100, R106,
R111). The bare trampoline is the lone byte 0xCB, so nothing follows it (log 11). -/
def Obligations.DecodeOfEncodeIsTheInstruction : Prop :=
  ∀ (i : Instr) (rest : List Byte), (i = .prefixCb → rest = []) → decode (encode i ++ rest) = .ok (i, rest)

/-- Encoding what the decoder reads gives the bytes read (30_encoding.md R100, R106). -/
def Obligations.EncodeOfDecodedIsTheBytesRead : Prop :=
  ∀ (bs : List Byte) (i : Instr) (rest : List Byte), decode bs = .ok (i, rest) → encode i ++ rest = bs

/-- Length is a function of the first byte, 1 to 3, decoding is total on any first byte, and 0xCB is followed by exactly one
CB-table byte, whatever it is (30_encoding.md R111, R112). STOP counts as the one byte of its opcode (log 21). -/
def Obligations.FirstByteFixesTheLength : Prop :=
  ∀ b : Byte, ∃ n : Nat, 1 ≤ n ∧ n ≤ 3 ∧ (b = 0xCB → n = 2) ∧
    ∀ (x y : Byte) (rest : List Byte), ∃ i : Instr,
      decode (b :: x :: y :: rest) = .ok (i, (b :: x :: y :: rest).drop n) ∧ (encode i).length = n

/-- The eleven unassigned opcodes, and no other byte, decode to an instruction of an unassigned kind (30_encoding.md R110). -/
def Obligations.UnassignedOpcodesAreTheEleven : Prop :=
  ∀ b : Byte, (∃ i : Instr, decode [b] = .ok (i, []) ∧ i.kind = .illegal b) ↔
    b ∈ [0xD3, 0xDB, 0xDD, 0xE3, 0xE4, 0xEB, 0xEC, 0xED, 0xF4, 0xFC, 0xFD]

/-- A word of each family decodes to the instruction it stands for (30_encoding.md R113, R114). -/
def Obligations.SampleWordsDecode : Prop :=
  decode [0x78] = .ok (.ldAB, []) ∧ decode [0x31, 0xFE, 0xFF] = .ok (.ldSpN16 0xFFFE, []) ∧
  decode [0x80] = .ok (.addAB, []) ∧ decode [0xCB, 0x7C] = .ok (.bit7H, []) ∧
  decode [0x20, 0xFB] = .ok (.jrNzE8 0xFB, []) ∧ decode [0xF5] = .ok (.pushAf, []) ∧
  decode [0x76] = .ok (.halt, []) ∧ decode [0xD9] = .ok (.reti, [])

/-! ### The step -/

/-- A step from an empty slot with no interrupt due runs the instruction at PC, the immediate bytes being read at PC+1
and PC+2 in the second and the third M-cycle of the instruction and a CB byte in its first (40_execution_cycle.md R130,
R135, R136, R138, 45_system.md R305). Two choices of the model are in it: one step is the whole instruction (log 1), and
`exec` starts in the M-cycle that reads the last byte, so it is reached after 0, 1 or 2 idle M-cycles, which R135 counts
as c1 and c2 of the instruction (log 15). -/
def Obligations.StepRunsTheDecodedInstruction : Prop :=
  ∀ (s : State) (i : Instr), s.cur = none → dueIrq s = none →
    (cpuRead s s.regs.pc ≠ 0xCB → decode [cpuRead s s.regs.pc] = .ok (i, []) → step s = exec i s) ∧
    (cpuRead s s.regs.pc = 0xCB → decode [0xCB, cpuRead s (s.regs.pc + 1)] = .ok (i, []) → step s = exec i s) ∧
    (cpuRead s s.regs.pc ≠ 0xCB →
      decode [cpuRead s s.regs.pc, cpuRead (idle 1 s) (s.regs.pc + 1)] = .ok (i, []) → step s = exec i (idle 1 s)) ∧
    (decode [cpuRead s s.regs.pc, cpuRead (idle 1 s) (s.regs.pc + 1), cpuRead (idle 2 s) (s.regs.pc + 2)] = .ok (i, []) →
      step s = exec i (idle 2 s))

/-- With the slot empty, IME set and an interrupt queued, a step is the dispatch of the highest-priority one: IF[t] and IME
cleared, two internal cycles, PC pushed high byte first, PC at the vector, five M-cycles in all (60_exceptions.md R323,
R324, R325). That one step is the whole dispatch is the model's choice (log 22). -/
def Obligations.StepDispatchesTheQueuedInterrupt : Prop :=
  ∀ (s : State) (t : Irq), s.cur = none → s.ime = true →
    s.pending.getLsbD (irqBit t) = true → (∀ j, j < irqBit t → s.pending.getLsbD j = false) →
    step s = .next { idle 2 (pushWord (idle 2 { s with iflag := s.iflag &&& ~~~t.mask, ime := false }) s.regs.sp s.regs.pc)
      with regs := { s.regs with sp := s.regs.sp - 2, pc := t.vector }, cur := none }

/-- An interrupt is queued iff IF & IE is not zero, IE bits 7:5 and IME aside; `pop()` gives the lowest set bit; none is
dispatched with IME clear; the five types have the masks and vectors of the table (60_exceptions.md R321, R322, R323, R326). That `pop()` gives none
with nothing queued, a case no caller reaches, is the model's (log 14). -/
def Obligations.PriorityMasksAndVectors : Prop :=
  (∀ (m : BitVec 5) (t : Irq), popIrq m = some t ↔
    m.getLsbD (irqBit t) = true ∧ ∀ j, j < irqBit t → m.getLsbD j = false) ∧
  (∀ t : Irq, t.mask = BitVec.ofNat 5 (2 ^ irqBit t) ∧ t.vector = BitVec.ofNat 16 (0x40 + 8 * irqBit t)) ∧
  (∀ s : State, (s.queued = true ↔ ∃ t : Irq, s.iflag.getLsbD (irqBit t) = true ∧ s.ie.getLsbD (irqBit t) = true) ∧
    dueIrq s = if s.ime then popIrq s.pending else none)

/-- From an instruction boundary, one step of the model is the machine's M-cycles, one after the other, up to the next
boundary (40_execution_cycle.md R130, R131, R132, R134; log 1, log 15). -/
def Obligations.StepIsTheSystemStepsToTheBoundary : Prop :=
  ∀ s : State, atBoundary s = true → step s = runToBoundary maxCycles s

/-- The core has no synchronous exception (60_exceptions.md R320): with ILLEGAL_OPCODE_FAULT false, its default, every step
and every M-cycle of every state ends in a next state; with it true the fetch of an unassigned opcode faults by name, and
nothing else does (45_system.md R306). No step changes what the host gave at launch (70_reset_and_hazards.md R396; that it
stands in State is log 7). -/
def Obligations.OnlyTheLaunchSwitchStopsAStep : Prop :=
  ∀ s : State,
    (s.illegalFault = false → (∃ t, step s = .next t) ∧ ∃ t, systemStep s = .next t) ∧
    (s.illegalFault = true → s.cur = none → dueIrq s = none → cpuRead s s.regs.pc ∈ unassignedOpcodes →
      step s = .fault (.illegalOpcode (cpuRead s s.regs.pc)) ∧
      systemStep s = .fault (.illegalOpcode (cpuRead s s.regs.pc))) ∧
    ∀ r, step s = r ∨ systemStep s = r → (∃ t, r = .next t ∧ t.illegalFault = s.illegalFault) ∨
      ∃ op, op ∈ unassignedOpcodes ∧ r = .fault (.illegalOpcode op)

/-! ### Invariants -/

/-- Every step keeps the invariant, and so does every M-cycle (10_state.md R22, R34, 45_system.md R305, 60_exceptions.md R342,
R345; the canonical form of the memories is the model's, log 4). -/
def Obligations.StepKeepsTheInvariant : Prop :=
  ∀ s t : State, s.Inv → (step s = .next t ∨ systemStep s = .next t) → t.Inv

/-- The invariant holds at power-on, for everything the host may give at launch: every legal register profile, every draw of
the RAM contents, every cartridge, either ILLEGAL_OPCODE_FAULT (10_state.md R50, R51, R52, 70_reset_and_hazards.md R396), and at the model's reset state (log 3, log 4, log 5). -/
def Obligations.PowerOnMeetsTheInvariant : Prop :=
  (∀ (p : Config.ResetProfile) (ram : Memory) (cart : Cart) (fault : Bool), p.legal = true → ram.wf = true →
    ram.onlyRam = true → cart.wf = true → (State.powerOn p ram cart fault).Inv) ∧ State.reset.Inv

/-- The non-register state right after power-on, whatever the profile, the RAM draw, the cartridge and the switch the host
gives (10_state.md R51). -/
def Obligations.PowerOnState : Prop :=
  ∀ (p : Config.ResetProfile) (ram : Memory) (cart : Cart) (fault : Bool), let s := State.powerOn p ram cart fault
    s.cur = none ∧ s.timer = { sysctr := 0, tima := 0, tma := 0, tac := 0, prevBit := false, ovfPending := false } ∧
    s.iflag = 0 ∧ s.ie = 0 ∧ s.locks = { vram := false, oam := false, dma := false } ∧
    s.dma.step = 0 ∧ s.dma.bank = 0 ∧ s.sel = 3 ∧
    (∀ a : Word, a = 0xFF01 ∨ a = 0xFF02 ∨ (0xFF40 ≤ a.toNat ∧ a.toNat ≤ 0xFF49) → cpuRead s a = 0)

/-! ### Registers -/

/-- The pairs and their halves share storage, high byte first; a write of AF forces F's low nibble to zero
(10_state.md R21, R22). -/
def Obligations.PairsShareStorageWithTheirHalves : Prop :=
  ∀ (r : Regs) (v : Word),
    (r.bc = r.b ++ r.c ∧ r.de = r.d ++ r.e ∧ r.hl = r.h ++ r.l ∧ r.af = r.a ++ r.f) ∧
    (r.setBc v = { r with b := v.extractLsb' 8 8, c := v.extractLsb' 0 8 } ∧ (r.setBc v).bc = v) ∧
    (r.setDe v = { r with d := v.extractLsb' 8 8, e := v.extractLsb' 0 8 } ∧ (r.setDe v).de = v) ∧
    (r.setHl v = { r with h := v.extractLsb' 8 8, l := v.extractLsb' 0 8 } ∧ (r.setHl v).hl = v) ∧
    (r.setAf v = { r with a := v.extractLsb' 8 8, f := v.extractLsb' 0 8 &&& 0xF0 } ∧ (r.setAf v).af = v &&& 0xFFF0)

/-- Each flag setter writes exactly its bit, and the getter reads it (10_state.md R22, R23). -/
def Obligations.FlagSettersTouchOneBit : Prop :=
  ∀ (r : Regs) (b : Bool),
    ((r.setZf b).zf = b ∧ (r.setZf b) = { r with f := (r.setZf b).f } ∧ ∀ j, j ≠ 7 → (r.setZf b).f.getLsbD j = r.f.getLsbD j) ∧
    ((r.setNf b).nf = b ∧ (r.setNf b) = { r with f := (r.setNf b).f } ∧ ∀ j, j ≠ 6 → (r.setNf b).f.getLsbD j = r.f.getLsbD j) ∧
    ((r.setHf b).hf = b ∧ (r.setHf b) = { r with f := (r.setHf b).f } ∧ ∀ j, j ≠ 5 → (r.setHf b).f.getLsbD j = r.f.getLsbD j) ∧
    ((r.setCf b).cf = b ∧ (r.setCf b) = { r with f := (r.setCf b).f } ∧ ∀ j, j ≠ 4 → (r.setCf b).f.getLsbD j = r.f.getLsbD j)

/-- `reg8[r]`: each code names one register, a write changes that one alone (30_encoding.md R103), and likewise the two pair
codes (R104, R105). -/
def Obligations.OperandCodesNameOneRegister : Prop :=
  (∀ (r : Regs) (x y : R8) (v : Byte), (r.set8 x v).get8 y = if y = x then v else r.get8 y) ∧
  (∀ (r : Regs) (x : R8) (v : Byte), (r.set8 x v).f = r.f ∧ (r.set8 x v).sp = r.sp ∧ (r.set8 x v).pc = r.pc) ∧
  (∀ (r : Regs) (p q : R16) (v : Word), (r.set16 p v).get16 q = if q = p then v else r.get16 q) ∧
  (∀ (r : Regs) (p q : R16Stk) (v : Word), (r.setStk p v).getStk q =
    if q = p then (if p = .af then v &&& 0xFFF0 else v) else r.getStk q)

/-! ### Loads -/

/-- LD r,r', LD r,(HL), LD (HL),r, LD SP,HL: no flag (43_loads.md R230, R232, R234, R247). -/
def Obligations.RegisterAndHlLoads : Prop :=
  (∀ (i : Instr) (dst src : R8), i.kind = .ldRR dst src →
    encode i = [0x40 + 8 * code8 dst + code8 src] ∧ ∀ s : State, exec i s = .next { idle 1 s with
      regs := { s.regs.set8 dst (s.regs.get8 src) with pc := s.regs.pc + 1 }, cur := none }) ∧
  (∀ (i : Instr) (dst : R8), i.kind = .ldRMemHl dst →
    encode i = [0x46 + 8 * code8 dst] ∧ ∀ s : State, exec i s = .next { idle 2 s with
      regs := { s.regs.set8 dst (cpuRead (idle 1 s) s.regs.hl) with pc := s.regs.pc + 1 }, cur := none }) ∧
  (∀ (i : Instr) (src : R8), i.kind = .ldMemHlR src →
    encode i = [0x70 + code8 src] ∧ ∀ s : State, exec i s = .next
      { idle 1 (cpuWrite (idle 1 s) s.regs.hl (s.regs.get8 src)) with
        regs := { s.regs with pc := s.regs.pc + 1 }, cur := none }) ∧
  (∀ i : Instr, i.kind = .ldSpHl → encode i = [0xF9] ∧ ∀ s : State, exec i s = .next { idle 2 s with
    regs := { s.regs with sp := s.regs.h ++ s.regs.l, pc := s.regs.pc + 1 }, cur := none })

/-- LD A,(rr) and LD (rr),A through BC, DE, HL+ and HL-, HL being updated after the transfer, and LD A,(C), LD (C),A
(43_loads.md R233, R235, R237, R238, R243, R244). -/
def Obligations.AccumulatorPointerLoads : Prop :=
  (∀ (i : Instr) (m : Ptr), i.kind = .ldAInd m →
    encode i = [0x0A + 16 * codePtr m] ∧ ∀ s : State, ∃ addr hl' : Word,
      (match m with
        | .bc => addr = s.regs.bc ∧ hl' = s.regs.hl
        | .de => addr = s.regs.de ∧ hl' = s.regs.hl
        | .hlInc => addr = s.regs.hl ∧ hl' = s.regs.hl + 1
        | .hlDec => addr = s.regs.hl ∧ hl' = s.regs.hl - 1) ∧
      exec i s = .next { idle 2 s with
        regs := { s.regs.setHl hl' with a := cpuRead (idle 1 s) addr, pc := s.regs.pc + 1 }, cur := none }) ∧
  (∀ (i : Instr) (m : Ptr), i.kind = .ldIndA m →
    encode i = [0x02 + 16 * codePtr m] ∧ ∀ s : State, ∃ addr hl' : Word,
      (match m with
        | .bc => addr = s.regs.bc ∧ hl' = s.regs.hl
        | .de => addr = s.regs.de ∧ hl' = s.regs.hl
        | .hlInc => addr = s.regs.hl ∧ hl' = s.regs.hl + 1
        | .hlDec => addr = s.regs.hl ∧ hl' = s.regs.hl - 1) ∧
      exec i s = .next { idle 1 (cpuWrite (idle 1 s) addr s.regs.a) with
        regs := { s.regs.setHl hl' with pc := s.regs.pc + 1 }, cur := none }) ∧
  (∀ i : Instr, i.kind = .ldAMemC → encode i = [0xF2] ∧ ∀ s : State, exec i s = .next { idle 2 s with
      regs := { s.regs with a := cpuRead (idle 1 s) ((0xFF : Byte) ++ s.regs.c), pc := s.regs.pc + 1 }, cur := none }) ∧
  (∀ i : Instr, i.kind = .ldMemCA → encode i = [0xE2] ∧ ∀ s : State, exec i s = .next
      { idle 1 (cpuWrite (idle 1 s) ((0xFF : Byte) ++ s.regs.c) s.regs.a) with
        regs := { s.regs with pc := s.regs.pc + 1 }, cur := none })

/-- LD r,n8, LD (HL),n8, LDH A,(n8), LDH (n8),A, from the M-cycle that reads the operand, where the model's `exec` starts
(log 15; 43_loads.md R231, R236, R241, R242); `StepRunsTheDecodedInstruction` says which byte the operand is. -/
def Obligations.ByteOperandLoads : Prop :=
  (∀ (i : Instr) (dst : R8) (n : Byte), i.kind = .ldRN dst n →
    encode i = [0x06 + 8 * code8 dst, n] ∧ ∀ s : State, exec i s = .next { idle 1 s with
      regs := { s.regs.set8 dst n with pc := s.regs.pc + 2 }, cur := none }) ∧
  (∀ (i : Instr) (n : Byte), i.kind = .ldMemHlN n →
    encode i = [0x36, n] ∧ ∀ s : State, exec i s = .next { idle 1 (cpuWrite (idle 1 s) s.regs.hl n) with
      regs := { s.regs with pc := s.regs.pc + 2 }, cur := none }) ∧
  (∀ (i : Instr) (n : Byte), i.kind = .ldhAN n →
    encode i = [0xF0, n] ∧ ∀ s : State, exec i s = .next { idle 2 s with
      regs := { s.regs with a := cpuRead (idle 1 s) ((0xFF : Byte) ++ n), pc := s.regs.pc + 2 }, cur := none }) ∧
  (∀ (i : Instr) (n : Byte), i.kind = .ldhNA n →
    encode i = [0xE0, n] ∧ ∀ s : State, exec i s = .next { idle 1 (cpuWrite (idle 1 s) ((0xFF : Byte) ++ n) s.regs.a) with
      regs := { s.regs with pc := s.regs.pc + 2 }, cur := none })

/-- LD A,(n16), LD (n16),A, LD rr,n16, LD (n16),SP, from the M-cycle that reads the operand's high byte, where the
model's `exec` starts (log 15; 43_loads.md R239, R240, R245, R246). LD (n16),SP stores SP's low byte at nn and its high
byte at nn+1, an M-cycle later. -/
def Obligations.WordOperandLoads : Prop :=
  (∀ (i : Instr) (nn : Word), i.kind = .ldAAbs nn →
    encode i = [0xFA, nn.extractLsb' 0 8, nn.extractLsb' 8 8] ∧ ∀ s : State, exec i s = .next { idle 2 s with
      regs := { s.regs with a := cpuRead (idle 1 s) nn, pc := s.regs.pc + 3 }, cur := none }) ∧
  (∀ (i : Instr) (nn : Word), i.kind = .ldAbsA nn →
    encode i = [0xEA, nn.extractLsb' 0 8, nn.extractLsb' 8 8] ∧ ∀ s : State, exec i s = .next
      { idle 1 (cpuWrite (idle 1 s) nn s.regs.a) with regs := { s.regs with pc := s.regs.pc + 3 }, cur := none }) ∧
  (∀ (i : Instr) (p : R16) (nn : Word), i.kind = .ldRRN p nn →
    encode i = [0x01 + 16 * code16 p, nn.extractLsb' 0 8, nn.extractLsb' 8 8] ∧ ∀ s : State,
      exec i s = .next { idle 1 s with regs := { s.regs.set16 p nn with pc := s.regs.pc + 3 }, cur := none }) ∧
  (∀ (i : Instr) (nn : Word), i.kind = .ldAbsSp nn →
    encode i = [0x08, nn.extractLsb' 0 8, nn.extractLsb' 8 8] ∧ ∀ s : State, exec i s = .next
      { idle 1 (cpuWrite (idle 1 (cpuWrite (idle 1 s) nn (s.regs.sp.extractLsb' 0 8))) (nn + 1) (s.regs.sp.extractLsb' 8 8))
        with regs := { s.regs with pc := s.regs.pc + 3 }, cur := none })

/-- LD HL,SP+e8 and ADD SP,e8 from the M-cycle that reads e8, where the model's `exec` starts (log 15): the sum is
signed, H and C come from the unsigned addition of the low bytes, Z and N are cleared (41_alu.md R176, R182, 43_loads.md
R248). -/
def Obligations.StackPointerSums : Prop :=
  (∀ (i : Instr) (e : Byte), i.kind = .ldHlSpE e → encode i = [0xF8, e] ∧ ∀ s : State, lowZero s →
    exec i s = .next { idle 2 s with
      regs := { s.regs.setHl (s.regs.sp + e.signExtend 16) with f := spFlags s.regs.sp e, pc := s.regs.pc + 2 }
      cur := none }) ∧
  (∀ (i : Instr) (e : Byte), i.kind = .addSp e → encode i = [0xE8, e] ∧ ∀ s : State, lowZero s →
    exec i s = .next { idle 3 s with
      regs := { s.regs with sp := s.regs.sp + e.signExtend 16, f := spFlags s.regs.sp e, pc := s.regs.pc + 2 }
      cur := none })

/-- PUSH rr: an internal cycle, then the high byte at SP-1 and, an M-cycle later, the low byte at SP-2 (43_loads.md R249,
R251). -/
def Obligations.PushStoresHighThenLow : Prop :=
  ∀ (i : Instr) (q : R16Stk), i.kind = .push q → encode i = [0xC5 + 16 * codeStk q] ∧ ∀ s : State,
    exec i s = .next { idle 1 (pushWord (idle 2 s) s.regs.sp (s.regs.getStk q)) with
      regs := { s.regs with sp := s.regs.sp - 2, pc := s.regs.pc + 1 }, cur := none }

/-- POP rr: the low byte at SP, then, an M-cycle later, the high byte at SP+1; POP AF forces F's low nibble to zero
(43_loads.md R250). -/
def Obligations.PopReadsLowThenHigh : Prop :=
  ∀ (i : Instr) (q : R16Stk), i.kind = .pop q → encode i = [0xC1 + 16 * codeStk q] ∧ ∀ s : State,
    exec i s = .next { idle 3 s with
      regs := { s.regs with sp := s.regs.sp + 2, pc := s.regs.pc + 1 }.setStk q
        (cpuRead (idle 2 s) (s.regs.sp + 1) ++ cpuRead (idle 1 s) s.regs.sp)
      cur := none }

/-! ### Arithmetic and logic -/

/-- `add8` and `sub8` equal their single-step forms, in the byte and in all four flags (41_alu.md R160, R161). -/
def Obligations.TwoStepCarriesEqualSingleStep : Prop :=
  ∀ (a b : Byte) (c : Bool),
    ((add8 a b c).res, flagByte (add8 a b c).z (add8 a b c).n (add8 a b c).h (add8 a b c).c) = sum8 a b c ∧
    ((sub8 a b c).res, flagByte (sub8 a b c).z (sub8 a b c).n (sub8 a b c).h (sub8 a b c).c) = diff8 a b c

/-- ADD, ADC, SUB, SBC, AND, XOR, OR, CP on a register, on the byte at HL and on an immediate (from the M-cycle that
reads it, log 15): A and all four flags, CP leaving A (41_alu.md R162 to R170). -/
def Obligations.EightBitOperationsOnA : Prop :=
  (∀ (i : Instr) (o : AluOp) (r : R8), i.kind = .aluR o r →
    encode i = [0x80 + 8 * codeAlu o + code8 r] ∧ ∀ s : State, lowZero s →
      exec i s = .next { idle 1 s with
        regs := { s.regs with a := (aluAF o s.regs.a (s.regs.get8 r) s.regs.cf).1
                              f := (aluAF o s.regs.a (s.regs.get8 r) s.regs.cf).2, pc := s.regs.pc + 1 }
        cur := none }) ∧
  (∀ (i : Instr) (o : AluOp), i.kind = .aluMemHl o →
    encode i = [0x86 + 8 * codeAlu o] ∧ ∀ s : State, lowZero s → ∀ v, v = cpuRead (idle 1 s) s.regs.hl →
      exec i s = .next { idle 2 s with
        regs := { s.regs with a := (aluAF o s.regs.a v s.regs.cf).1, f := (aluAF o s.regs.a v s.regs.cf).2
                              pc := s.regs.pc + 1 }
        cur := none }) ∧
  (∀ (i : Instr) (o : AluOp) (n : Byte), i.kind = .aluN o n →
    encode i = [0xC6 + 8 * codeAlu o, n] ∧ ∀ s : State, lowZero s →
      exec i s = .next { idle 1 s with
        regs := { s.regs with a := (aluAF o s.regs.a n s.regs.cf).1, f := (aluAF o s.regs.a n s.regs.cf).2
                              pc := s.regs.pc + 2 }
        cur := none })

/-- INC and DEC of a register, and of the byte at HL, which is read and, an M-cycle later, written with the flags: Z, N and H
written, the carry flag never touched (41_alu.md R171, R172). -/
def Obligations.EightBitIncAndDec : Prop :=
  (∀ (i : Instr) (r : R8), i.kind = .incR r → encode i = [0x04 + 8 * code8 r] ∧ ∀ s : State, lowZero s →
    exec i s = .next { idle 1 s with
      regs := { s.regs.set8 r (s.regs.get8 r + 1) with
        f := flagByte (s.regs.get8 r = 0xFF) false (s.regs.get8 r % 16 = 15) s.regs.cf, pc := s.regs.pc + 1 }
      cur := none }) ∧
  (∀ (i : Instr) (r : R8), i.kind = .decR r → encode i = [0x05 + 8 * code8 r] ∧ ∀ s : State, lowZero s →
    exec i s = .next { idle 1 s with
      regs := { s.regs.set8 r (s.regs.get8 r - 1) with
        f := flagByte (s.regs.get8 r = 1) true (s.regs.get8 r % 16 = 0) s.regs.cf, pc := s.regs.pc + 1 }
      cur := none }) ∧
  (∀ i : Instr, i.kind = .incMemHl → encode i = [0x34] ∧ ∀ s : State, lowZero s → ∀ v, v = cpuRead (idle 1 s) s.regs.hl →
    exec i s = .next { idle 1 (cpuWrite (idle 2 s) s.regs.hl (v + 1)) with
      regs := { s.regs with f := flagByte (v = 0xFF) false (v % 16 = 15) s.regs.cf, pc := s.regs.pc + 1 }, cur := none }) ∧
  (∀ i : Instr, i.kind = .decMemHl → encode i = [0x35] ∧ ∀ s : State, lowZero s → ∀ v, v = cpuRead (idle 1 s) s.regs.hl →
    exec i s = .next { idle 1 (cpuWrite (idle 2 s) s.regs.hl (v - 1)) with
      regs := { s.regs with f := flagByte (v = 1) true (v % 16 = 0) s.regs.cf, pc := s.regs.pc + 1 }, cur := none })

/-- INC rr and DEC rr: two M-cycles, the pair modulo 2^16, no flag (41_alu.md R173, R174). -/
def Obligations.IncAndDecOfAPair : Prop :=
  (∀ (i : Instr) (p : R16), i.kind = .incRR p → encode i = [0x03 + 16 * code16 p] ∧ ∀ s : State,
    exec i s = .next { idle 2 s with
      regs := { s.regs with pc := s.regs.pc + 1 }.set16 p (s.regs.get16 p + 1), cur := none }) ∧
  (∀ (i : Instr) (p : R16), i.kind = .decRR p → encode i = [0x0B + 16 * code16 p] ∧ ∀ s : State,
    exec i s = .next { idle 2 s with
      regs := { s.regs with pc := s.regs.pc + 1 }.set16 p (s.regs.get16 p - 1), cur := none })

/-- ADD HL,rr: HL modulo 2^16, H out of bit 11, C out of bit 15, N cleared, Z kept (41_alu.md R175). -/
def Obligations.AddPairToHl : Prop :=
  ∀ (i : Instr) (p : R16), i.kind = .addHl p → encode i = [0x09 + 16 * code16 p] ∧ ∀ s : State, lowZero s →
    exec i s = .next { idle 2 s with
      regs := { s.regs.setHl (s.regs.hl + s.regs.get16 p) with
        f := flagByte s.regs.zf false (s.regs.hl.toNat % 4096 + (s.regs.get16 p).toNat % 4096 > 4095)
          (s.regs.hl.toNat + (s.regs.get16 p).toNat > 65535)
        pc := s.regs.pc + 1 }
      cur := none }

/-- DAA, in arithmetic on A's value: after an addition 0x60 is added if C is set or A is at least 0x9A, and 0x06 if H is set
or the low digit, then, exceeds 9; after a subtraction 0x60 and 0x06 are taken off as C and H say; N is kept, H cleared
(41_alu.md R177). -/
def Obligations.DecimalAdjust : Prop :=
  ∀ i : Instr, i.kind = .daa → encode i = [0x27] ∧ ∀ s : State, lowZero s →
    ∃ adj : Byte, ∃ c : Bool,
      (s.regs.nf = true → c = s.regs.cf ∧
        adj = 0 - ((if s.regs.cf then 0x60 else 0) + (if s.regs.hf then 0x06 else 0))) ∧
      (s.regs.nf = false → c = (s.regs.cf || decide (0x9A ≤ s.regs.a.toNat)) ∧
        adj = (if c then 0x60 else 0) + (if s.regs.hf || decide (9 < s.regs.a.toNat % 16) then 0x06 else 0)) ∧
      exec i s = .next { idle 1 s with
        regs := { s.regs with a := s.regs.a + adj, f := flagByte (s.regs.a + adj = 0) s.regs.nf false c
                              pc := s.regs.pc + 1 }
        cur := none }

/-- CPL, SCF, CCF: A complemented with N and H set; C set; C inverted, both with N and H cleared; Z kept by all three
(41_alu.md R178, R179, R180). -/
def Obligations.ComplementAndCarryInstructions : Prop :=
  (∀ i : Instr, i.kind = .cpl → encode i = [0x2F] ∧ ∀ s : State, lowZero s → exec i s = .next { idle 1 s with
    regs := { s.regs with a := 0xFF - s.regs.a, f := flagByte s.regs.zf true true s.regs.cf, pc := s.regs.pc + 1 }
    cur := none }) ∧
  (∀ i : Instr, i.kind = .scf → encode i = [0x37] ∧ ∀ s : State, lowZero s → exec i s = .next { idle 1 s with
    regs := { s.regs with f := flagByte s.regs.zf false false true, pc := s.regs.pc + 1 }, cur := none }) ∧
  (∀ i : Instr, i.kind = .ccf → encode i = [0x3F] ∧ ∀ s : State, lowZero s → exec i s = .next { idle 1 s with
    regs := { s.regs with f := flagByte s.regs.zf false false (!s.regs.cf), pc := s.regs.pc + 1 }, cur := none })

/-! ### Rotates, shifts and bits -/

/-- RLCA, RRCA, RLA, RRA: A rotated, Z, N and H cleared, C the bit that left A (42_rotate_shift_bit.md R200 to R203, R216). -/
def Obligations.AccumulatorRotates : Prop :=
  ∀ (i : Instr) (k : RotOp), i.kind = .rotA k → k ∈ [.rlc, .rrc, .rl, .rr] ∧ encode i = [0x07 + 8 * codeRot k] ∧
    ∀ s : State, lowZero s → exec i s = .next { idle 1 s with
      regs := { s.regs with a := (rotated k s.regs.a s.regs.cf).1
                            f := flagByte false false false (rotated k s.regs.a s.regs.cf).2, pc := s.regs.pc + 1 }
      cur := none }

/-- The CB rotates and shifts of a register, and of the byte at HL, read in the third M-cycle and written with the flags in the
fourth: the result, Z from it, N and H cleared, C the bit that left the byte (42_rotate_shift_bit.md R204 to R212, R216). -/
def Obligations.CbRotatesAndShifts : Prop :=
  (∀ (i : Instr) (k : RotOp) (r : R8), i.kind = .rotR k r → encode i = [0xCB, 8 * codeRot k + code8 r] ∧
      ∀ s : State, lowZero s → exec i s = .next { idle 2 s with
        regs := { s.regs.set8 r (rotated k (s.regs.get8 r) s.regs.cf).1 with
          f := flagByte ((rotated k (s.regs.get8 r) s.regs.cf).1 = 0) false false (rotated k (s.regs.get8 r) s.regs.cf).2
          pc := s.regs.pc + 2 }
        cur := none }) ∧
  (∀ (i : Instr) (k : RotOp), i.kind = .rotMemHl k → encode i = [0xCB, 0x06 + 8 * codeRot k] ∧
      ∀ s : State, lowZero s → ∀ v, v = cpuRead (idle 2 s) s.regs.hl →
        exec i s = .next { idle 1 (cpuWrite (idle 3 s) s.regs.hl (rotated k v s.regs.cf).1) with
          regs := { s.regs with
            f := flagByte ((rotated k v s.regs.cf).1 = 0) false false (rotated k v s.regs.cf).2, pc := s.regs.pc + 2 }
          cur := none })

/-- BIT b,r and BIT b,(HL): Z the complement of the bit, N cleared, H set, C kept, nothing else written
(42_rotate_shift_bit.md R213). -/
def Obligations.BitTests : Prop :=
  (∀ (i : Instr) (b : Fin 8) (r : R8), i.kind = .bitR b r → encode i = [0xCB, 0x40 + 8 * codeBit b + code8 r] ∧
    ∀ s : State, lowZero s → exec i s = .next { idle 2 s with
      regs := { s.regs with f := flagByte (!(s.regs.get8 r).getLsbD b) false true s.regs.cf, pc := s.regs.pc + 2 }
      cur := none }) ∧
  (∀ (i : Instr) (b : Fin 8), i.kind = .bitMemHl b → encode i = [0xCB, 0x46 + 8 * codeBit b] ∧
    ∀ s : State, lowZero s → exec i s = .next { idle 3 s with
      regs := { s.regs with
        f := flagByte (!(cpuRead (idle 2 s) s.regs.hl).getLsbD b) false true s.regs.cf, pc := s.regs.pc + 2 }
      cur := none })

/-- RES b,x and SET b,x: in the result bit b is 0, or 1, and the other bits are x's; no flag (42_rotate_shift_bit.md R214,
R215). -/
def Obligations.BitResetsAndSets : Prop :=
  ∀ (b : Fin 8), ∃ res set : Byte → Byte,
    (∀ (x : Byte) (j : Nat), j < 8 → (res x).getLsbD j = (x.getLsbD j && j != b) ∧
      (set x).getLsbD j = (x.getLsbD j || j == b)) ∧
    (∀ (i : Instr) (r : R8), i.kind = .resR b r → encode i = [0xCB, 0x80 + 8 * codeBit b + code8 r] ∧ ∀ s : State,
      exec i s = .next { idle 2 s with
        regs := { s.regs.set8 r (res (s.regs.get8 r)) with pc := s.regs.pc + 2 }, cur := none }) ∧
    (∀ (i : Instr) (r : R8), i.kind = .setR b r → encode i = [0xCB, 0xC0 + 8 * codeBit b + code8 r] ∧ ∀ s : State,
      exec i s = .next { idle 2 s with
        regs := { s.regs.set8 r (set (s.regs.get8 r)) with pc := s.regs.pc + 2 }, cur := none }) ∧
    (∀ i : Instr, i.kind = .resMemHl b → encode i = [0xCB, 0x86 + 8 * codeBit b] ∧ ∀ s : State,
      exec i s = .next { idle 1 (cpuWrite (idle 3 s) s.regs.hl (res (cpuRead (idle 2 s) s.regs.hl))) with
        regs := { s.regs with pc := s.regs.pc + 2 }, cur := none }) ∧
    (∀ i : Instr, i.kind = .setMemHl b → encode i = [0xCB, 0xC6 + 8 * codeBit b] ∧ ∀ s : State,
      exec i s = .next { idle 1 (cpuWrite (idle 3 s) s.regs.hl (set (cpuRead (idle 2 s) s.regs.hl))) with
        regs := { s.regs with pc := s.regs.pc + 2 }, cur := none })

/-- The bare trampoline: it reads the CB byte at PC+1 in its own first M-cycle and is from then on the instruction of that
byte, with the same next state (45_system.md R305; log 11). -/
def Obligations.TrampolineRunsTheCbInstruction : Prop :=
  ∀ i : Instr, i.kind = .prefixCb → encode i = [0xCB] ∧ ∀ (s : State) (j : Instr),
    decode [0xCB, cpuRead s (s.regs.pc + 1)] = .ok (j, []) → ∃ t, exec i s = .next t ∧ exec j s = .next t

/-! ### Control flow -/

/-- JP n16 (from the M-cycle that reads the high byte), JP HL and JR e8 (from the one that reads e8), where the model's
`exec` starts (log 15; 44_control_flow.md R271, R273, R274). -/
def Obligations.UnconditionalJumps : Prop :=
  (∀ (i : Instr) (nn : Word), i.kind = .jp nn →
    encode i = [0xC3, nn.extractLsb' 0 8, nn.extractLsb' 8 8] ∧ ∀ s : State,
      exec i s = .next { idle 2 s with regs := { s.regs with pc := nn }, cur := none }) ∧
  (∀ i : Instr, i.kind = .jpHl → encode i = [0xE9] ∧ ∀ s : State,
    exec i s = .next { idle 1 s with regs := { s.regs with pc := s.regs.h ++ s.regs.l }, cur := none }) ∧
  (∀ (i : Instr) (e : Byte), i.kind = .jr e → encode i = [0x18, e] ∧ ∀ s : State,
    exec i s = .next { idle 2 s with regs := { s.regs with pc := s.regs.pc + 2 + e.signExtend 16 }, cur := none })

/-- The four conditions, and JP cc,n16 and JR cc,e8: one M-cycle more and the target in PC when the condition holds, else
PC past the instruction (44_control_flow.md R270, R272, R275, 40_execution_cycle.md R144). The jumps start in the M-cycle
that reads the last operand byte (log 15). -/
def Obligations.ConditionalJumps : Prop :=
  (∀ r : Regs, (condHolds .nz r = true ↔ r.f.getLsbD 7 = false) ∧ (condHolds .z r = true ↔ r.f.getLsbD 7 = true) ∧
    (condHolds .nc r = true ↔ r.f.getLsbD 4 = false) ∧ (condHolds .c r = true ↔ r.f.getLsbD 4 = true)) ∧
  (∀ (i : Instr) (cc : Cond) (nn : Word), i.kind = .jpCc cc nn →
    encode i = [0xC2 + 8 * codeCond cc, nn.extractLsb' 0 8, nn.extractLsb' 8 8] ∧ ∀ s : State,
      (condHolds cc s.regs = true → exec i s = .next { idle 2 s with regs := { s.regs with pc := nn }, cur := none }) ∧
      (condHolds cc s.regs = false →
        exec i s = .next { idle 1 s with regs := { s.regs with pc := s.regs.pc + 3 }, cur := none })) ∧
  (∀ (i : Instr) (cc : Cond) (e : Byte), i.kind = .jrCc cc e →
    encode i = [0x20 + 8 * codeCond cc, e] ∧ ∀ s : State,
      (condHolds cc s.regs = true →
        exec i s = .next { idle 2 s with regs := { s.regs with pc := s.regs.pc + 2 + e.signExtend 16 }, cur := none }) ∧
      (condHolds cc s.regs = false →
        exec i s = .next { idle 1 s with regs := { s.regs with pc := s.regs.pc + 2 }, cur := none }))

/-- CALL n16, CALL cc,n16 and RST: the address after the instruction is pushed, high byte first, and PC takes the target;
a CALL whose condition fails ends with PC past it, SP and memory untouched (44_control_flow.md R276, R277, R281). The
calls start in the M-cycle that reads the address's high byte (log 15). -/
def Obligations.CallsAndRestarts : Prop :=
  (∀ (i : Instr) (nn : Word), i.kind = .call nn →
    encode i = [0xCD, nn.extractLsb' 0 8, nn.extractLsb' 8 8] ∧ ∀ s : State,
      exec i s = .next { idle 1 (pushWord (idle 2 s) s.regs.sp (s.regs.pc + 3)) with
        regs := { s.regs with sp := s.regs.sp - 2, pc := nn }, cur := none }) ∧
  (∀ (i : Instr) (cc : Cond) (nn : Word), i.kind = .callCc cc nn →
    encode i = [0xC4 + 8 * codeCond cc, nn.extractLsb' 0 8, nn.extractLsb' 8 8] ∧ ∀ s : State,
      (condHolds cc s.regs = true →
        exec i s = .next { idle 1 (pushWord (idle 2 s) s.regs.sp (s.regs.pc + 3)) with
          regs := { s.regs with sp := s.regs.sp - 2, pc := nn }, cur := none }) ∧
      (condHolds cc s.regs = false →
        exec i s = .next { idle 1 s with regs := { s.regs with pc := s.regs.pc + 3 }, cur := none })) ∧
  (∀ (i : Instr) (y : Fin 8), i.kind = .rst y → encode i = [0xC7 + 8 * codeBit y] ∧ ∀ s : State,
      exec i s = .next { idle 1 (pushWord (idle 2 s) s.regs.sp (s.regs.pc + 1)) with
        regs := { s.regs with sp := s.regs.sp - 2, pc := BitVec.ofNat 16 (8 * y.val) }, cur := none })

/-- RET, RET cc and RETI: PC takes the two bytes at SP, low byte first; RETI sets IME with it; a RET whose condition fails
ends after two M-cycles (44_control_flow.md R278, R279, R280). -/
def Obligations.Returns : Prop :=
  (∀ i : Instr, i.kind = .ret → encode i = [0xC9] ∧ ∀ s : State,
    exec i s = .next { idle 4 s with
      regs := { s.regs with sp := s.regs.sp + 2
                            pc := cpuRead (idle 2 s) (s.regs.sp + 1) ++ cpuRead (idle 1 s) s.regs.sp }
      cur := none }) ∧
  (∀ i : Instr, i.kind = .reti → encode i = [0xD9] ∧ ∀ s : State,
    exec i s = .next { idle 4 s with
      regs := { s.regs with sp := s.regs.sp + 2
                            pc := cpuRead (idle 2 s) (s.regs.sp + 1) ++ cpuRead (idle 1 s) s.regs.sp }
      ime := true, cur := none }) ∧
  (∀ (i : Instr) (cc : Cond), i.kind = .retCc cc → encode i = [0xC0 + 8 * codeCond cc] ∧ ∀ s : State,
    (condHolds cc s.regs = true →
      exec i s = .next { idle 5 s with
        regs := { s.regs with sp := s.regs.sp + 2
                              pc := cpuRead (idle 3 s) (s.regs.sp + 1) ++ cpuRead (idle 2 s) s.regs.sp }
        cur := none }) ∧
    (condHolds cc s.regs = false →
      exec i s = .next { idle 2 s with regs := { s.regs with pc := s.regs.pc + 1 }, cur := none }))

/-- A return undoes a push: in a quiet machine whose stack bytes are WRAM or HRAM, PUSH rr then POP rr gives rr back (AF
with F's low nibble cleared) and SP its old value (43_loads.md R249, R250, R251). -/
def Obligations.PushThenPopRestoresThePair : Prop :=
  ∀ (i j : Instr) (q : R16Stk) (s t u : State), i.kind = .push q → j.kind = .pop q → s.Quiet → s.locks.dma = false →
    (∀ a, a = s.regs.sp - 1 ∨ a = s.regs.sp - 2 → region a = .wram ∨ region a = .hram) →
    exec i s = .next t → exec j t = .next u →
    u.regs.sp = s.regs.sp ∧ u.regs.getStk q = (if q = .af then s.regs.af &&& 0xFFF0 else s.regs.getStk q)

/-! ### System instructions -/

/-- NOP, an unassigned opcode, DI and EI: one M-cycle, IME cleared by DI and set at once by EI, nothing else; in a machine
launched with ILLEGAL_OPCODE_FAULT an unassigned opcode is a fault by name (45_system.md R300, R303, R304, R306; that the
switch stands in State is log 7). -/
def Obligations.NopDiEiAndUnassigned : Prop :=
  (∀ i : Instr, i.kind = .nop → encode i = [0x00] ∧ ∀ s : State,
    exec i s = .next { idle 1 s with regs := { s.regs with pc := s.regs.pc + 1 }, cur := none }) ∧
  (∀ (i : Instr) (op : Byte), i.kind = .illegal op → encode i = [op] ∧ ∀ s : State,
    (s.illegalFault = false →
      exec i s = .next { idle 1 s with regs := { s.regs with pc := s.regs.pc + 1 }, cur := none }) ∧
    (s.illegalFault = true → exec i s = .fault (.illegalOpcode op))) ∧
  (∀ i : Instr, i.kind = .di → encode i = [0xF3] ∧ ∀ s : State,
    exec i s = .next { idle 1 s with regs := { s.regs with pc := s.regs.pc + 1 }, ime := false, cur := none }) ∧
  (∀ i : Instr, i.kind = .ei → encode i = [0xFB] ∧ ∀ s : State,
    exec i s = .next { idle 1 s with regs := { s.regs with pc := s.regs.pc + 1 }, ime := true, cur := none })

/-- HALT: entered with IME clear and an interrupt queued it takes two M-cycles and goes on after itself; else it stays in
the slot, one M-cycle a step, until an interrupt is queued after a timer tick, whatever IME (45_system.md R301,
40_execution_cycle.md R140). That a waiting HALT is one step an M-cycle and its step counter counts on is the model's
choice (log 1, log 20). -/
def Obligations.HaltWaitsForAQueuedInterrupt : Prop :=
  ∀ i : Instr, i.kind = .halt → encode i = [0x76] ∧
    (∀ s : State, s.ime = false → s.queued = true →
      exec i s = .next { idle 2 s with regs := { s.regs with pc := s.regs.pc + 1 }, cur := none }) ∧
    (∀ s : State, s.ime = true ∨ s.queued = false → exec i s = .next { idle 1 s with
      regs := { s.regs with pc := s.regs.pc + 1 }
      cur := if (timerTick s).queued then none else some (.running .halt 1 .fresh) }) ∧
    (∀ (s : State) (n : Nat) (l : Latches), s.cur = some (.running .halt (n + 1) l) → l.haltBug = false →
      step s = .next { idle 1 s with
        cur := if (timerTick s).queued then none else some (.running .halt (n + 2) l) })

/-- STOP: PC past it by STOP_LENGTH (open, log 2), the whole divider counter reset, no timer tick while it lasts; it
stays in the slot until the joypad nibble reads all-low, whatever is queued (45_system.md R302, 40_execution_cycle.md
R141, R142). That a waiting STOP is one step an M-cycle and its step counter counts on is the model's choice (log 1, log
20). -/
def Obligations.StopWaitsForTheJoypad : Prop :=
  ∀ i : Instr, i.kind = .stop → encode i = [0x10] ∧
    (∀ s : State, exec i s = .next { dmaTick (envStep { s with timer := { s.timer with sysctr := 0 } }) with
      regs := { s.regs with pc := s.regs.pc + Config.stopLength }
      cur := if s.joypNibble = 0 then none else some (.running .stop 1 .fresh) }) ∧
    (∀ (s : State) (n : Nat) (l : Latches), s.cur = some (.running .stop (n + 1) l) →
      step s = .next { dmaTick (envStep s) with
        cur := if s.joypNibble = 0 then none else some (.running .stop (n + 2) l) })

/-! ### The bus -/

/-- The regions of the address space (20_memory.md R61, R62). -/
def Obligations.RegionsOfTheAddressSpace : Prop :=
  ∀ a : Word,
    (region a = .rom ↔ a.toNat ≤ 0x7FFF) ∧ (region a = .vram ↔ 0x8000 ≤ a.toNat ∧ a.toNat ≤ 0x9FFF) ∧
    (region a = .eram ↔ 0xA000 ≤ a.toNat ∧ a.toNat ≤ 0xBFFF) ∧ (region a = .wram ↔ 0xC000 ≤ a.toNat ∧ a.toNat ≤ 0xDFFF) ∧
    (region a = .unmapped ↔ (0xE000 ≤ a.toNat ∧ a.toNat ≤ 0xFDFF) ∨ (0xFEA0 ≤ a.toNat ∧ a.toNat ≤ 0xFEFF)) ∧
    (region a = .oam ↔ 0xFE00 ≤ a.toNat ∧ a.toNat ≤ 0xFE9F) ∧ (region a = .io ↔ 0xFF00 ≤ a.toNat ∧ a.toNat ≤ 0xFF7F) ∧
    (region a = .hram ↔ 0xFF80 ≤ a.toNat ∧ a.toNat ≤ 0xFFFE) ∧ (region a = .ie ↔ a = 0xFFFF)

/-- The locks: what each blocks reads 0xFF and drops writes, and nothing else is blocked (20_memory.md R64, R65, R67, R68,
R69). -/
def Obligations.LocksBlockReadsAndWrites : Prop :=
  ∀ (s : State) (a : Word) (v : Byte) (src : Source) (shut : Prop),
    (shut ↔ (s.locks.dma = true ∧ src ≠ .dma ∧ region a ∈ [.rom, .vram, .eram, .wram, .oam]) ∨
      (s.locks.vram = true ∧ src ≠ .ppu ∧ region a = .vram) ∨
      (s.locks.oam = true ∧ src = .cpu ∧ region a = .oam)) →
    (shut → busRead s a src = 0xFF ∧ busWrite s a v src = s) ∧
    (¬shut → busRead s a src = peek s a ∧ busWrite s a v src = poke s a v)

/-- A byte of VRAM, WRAM, OAM or HRAM reads, after a CPU write no lock blocks, as the byte written, and every other address
reads as before (20_memory.md R64, R65, R79). -/
def Obligations.RamReadsWhatWasWritten : Prop :=
  ∀ (s : State) (a b : Word) (v : Byte), isRam (region a) = true → blocked s.locks (region a) .cpu = false →
    cpuRead (cpuWrite s a v) b = if b = a then v else cpuRead s b

/-- IE and the unmapped ranges, for any source and any locks (20_memory.md R64, R65, R71, 60_exceptions.md R330). -/
def Obligations.IeAndUnmappedAnswerUnderAnyLock : Prop :=
  ∀ (s : State) (a : Word) (v : Byte) (src : Source),
    (busRead s 0xFFFF src = s.ie ∧ busWrite s 0xFFFF v src = { s with ie := v }) ∧
    (region a = .unmapped → busRead s a src = 0x00 ∧ busWrite s a v src = s)

/-- What the I/O addresses read as, whatever the locks (20_memory.md R72, R73, R84, 60_exceptions.md R338, R341). -/
def Obligations.IoReads : Prop :=
  ∀ s : State,
    cpuRead s 0xFF00 = (3 : BitVec 2) ++ s.sel ++ s.joypNibble ∧ cpuRead s 0xFF01 = s.sb ∧ cpuRead s 0xFF02 = s.sc ∧
    (cpuRead s 0xFF04).toNat = s.timer.sysctr.toNat / 64 ∧ cpuRead s 0xFF05 = s.timer.tima ∧
    cpuRead s 0xFF06 = s.timer.tma ∧ cpuRead s 0xFF07 = (0x1F : BitVec 5) ++ s.timer.tac ∧
    cpuRead s 0xFF0F = (7 : BitVec 3) ++ s.iflag ∧
    cpuRead s 0xFF40 = s.ppu.ff40 ∧ cpuRead s 0xFF41 = s.ppu.ff41 ∧ cpuRead s 0xFF42 = s.ppu.ff42 ∧
    cpuRead s 0xFF43 = s.ppu.ff43 ∧ cpuRead s 0xFF44 = s.ppu.ff44 ∧ cpuRead s 0xFF45 = s.ppu.ff45 ∧
    cpuRead s 0xFF46 = s.dma.trigger ∧ cpuRead s 0xFF47 = s.ppu.ff47 ∧ cpuRead s 0xFF48 = s.ppu.ff48 ∧
    cpuRead s 0xFF49 = s.ppu.ff49 ∧
    ∀ a : Word, a = 0xFF03 ∨ (0xFF08 ≤ a.toNat ∧ a.toNat ≤ 0xFF0E) ∨ (0xFF10 ≤ a.toNat ∧ a.toNat ≤ 0xFF3F) ∨
      (0xFF4A ≤ a.toNat ∧ a.toNat ≤ 0xFF7F) → cpuRead s a = 0xFF ∧ ∀ v, cpuWrite s a v = s

/-- What a write to an I/O address does, whatever the locks (20_memory.md R72, R84, R85, R86, 60_exceptions.md R330, R338,
R339): each stores its bits, DIV resets the whole counter, SC with bit 7 set emits SB. -/
def Obligations.IoWrites : Prop :=
  ∀ (s : State) (v : Byte),
    cpuWrite s 0xFF00 v = { s with sel := v.extractLsb' 4 2 } ∧ cpuWrite s 0xFF01 v = { s with sb := v } ∧
    cpuWrite s 0xFF02 v = { s with sc := v, serialOut := if 128 ≤ v.toNat then s.serialOut ++ [s.sb] else s.serialOut } ∧
    cpuWrite s 0xFF04 v = { s with timer := { s.timer with sysctr := 0 } } ∧
    cpuWrite s 0xFF05 v = { s with timer := { s.timer with tima := v } } ∧
    cpuWrite s 0xFF06 v = { s with timer := { s.timer with tma := v } } ∧
    cpuWrite s 0xFF07 v = { s with timer := { s.timer with tac := v.extractLsb' 0 3 } } ∧
    cpuWrite s 0xFF0F v = { s with iflag := v.extractLsb' 0 5 } ∧
    cpuWrite s 0xFF40 v = { s with ppu := { s.ppu with ff40 := v } } ∧
    cpuWrite s 0xFF41 v = { s with ppu := { s.ppu with ff41 := v } } ∧
    cpuWrite s 0xFF42 v = { s with ppu := { s.ppu with ff42 := v } } ∧
    cpuWrite s 0xFF43 v = { s with ppu := { s.ppu with ff43 := v } } ∧
    cpuWrite s 0xFF44 v = { s with ppu := { s.ppu with ff44 := v } } ∧
    cpuWrite s 0xFF45 v = { s with ppu := { s.ppu with ff45 := v } } ∧
    cpuWrite s 0xFF46 v = { s with dma := { s.dma with trigger := v } } ∧
    cpuWrite s 0xFF47 v = { s with ppu := { s.ppu with ff47 := v } } ∧
    cpuWrite s 0xFF48 v = { s with ppu := { s.ppu with ff48 := v } } ∧
    cpuWrite s 0xFF49 v = { s with ppu := { s.ppu with ff49 := v } }

/-- The static cartridge: ROM reads its bytes, its RAM window reads one open value, writes are ignored; any cartridge's read
leaves no trace and its write changes the cartridge alone (20_memory.md R75; log 5, log 6). -/
def Obligations.CartridgeContract : Prop :=
  ∀ (s : State) (rom : Memory) (a : Word) (v : Byte), s.locks.dma = false →
    (s.cart = .staticRom rom → region a = .rom → cpuRead s a = rom.read a) ∧
    (s.cart = .staticRom rom → region a = .eram → cpuRead s a = Config.eramNoneValue) ∧
    (s.cart = .staticRom rom → isCart a → cpuWrite s a v = s) ∧
    (isCart a → cpuRead s a = s.cart.read a ∧ cpuWrite s a v = { s with cart := s.cart.write a v })

/-! ### Timer, DMA, environment -/

/-- A falling edge on TIMA = 0xFF: TIMA reads 0x00 and IF is untouched in that tick; the next tick loads TMA and sets IF
bit 2, as a TMA or TIMA write in between shows (60_exceptions.md R336, R340). -/
def Obligations.OverflowReloadsOneTickLater : Prop :=
  ∀ s : State, s.timer.ovfPending = false → s.timer.tima = 0xFF → s.timer.prevBit = true →
    watchedBit (s.timer.sysctr + 1) s.timer.tac = false →
    (timerTick s).timer.tima = 0 ∧ (timerTick s).iflag = s.iflag ∧ (timerTick s).timer.ovfPending = true ∧
    ∀ tima tma : Byte, let s' := { timerTick s with timer := { (timerTick s).timer with tima := tima, tma := tma } }
      (timerTick s').timer.tima = tma ∧ (timerTick s').iflag = s.iflag ||| 0b00100 ∧
      (timerTick s').timer.ovfPending = false

/-- DIV counts once every 64 timer ticks, modulo 256, whatever the other registers; a DIV write, of any byte, resets the whole
counter, so it is 1 after the timer tick of that M-cycle, and with the watched bit set it counts TIMA in that tick
(60_exceptions.md R337, R338). -/
def Obligations.DivCountsAndResets : Prop :=
  (∀ (t : Timer) (n : Nat), (timerTicks (64 * n) t).div = t.div + BitVec.ofNat 8 n) ∧
  (∀ (s : State) (v : Byte), (timerTick (cpuWrite s 0xFF04 v)).timer.sysctr = 1 ∧
    (s.timer.prevBit = true → s.timer.ovfPending = false →
      (timerTick (cpuWrite s 0xFF04 v)).timer.tima = s.timer.tima + 1 ∧
      (timerTick (cpuWrite s 0xFF04 v)).timer.ovfPending = decide (s.timer.tima = 0xFF)))

/-- With the timer enabled and no overflow on the way, TIMA counts once in each period of its clock select: 256, 4, 16 or 64
M-cycles (60_exceptions.md R336, R337). -/
def Obligations.TimaCountsOncePerPeriod : Prop :=
  ∀ t : Timer, t.tac.getLsbD 2 = true → t.ovfPending = false → t.tima ≠ 0xFF → t.prevBit = watchedBit t.sysctr t.tac →
    (timerTicks (timaPeriod t.tac) t).tima = t.tima + 1

/-- A whole transfer: the tick that sees the trigger v locks, the next 160 copy bytes 0 to 159 of page v to OAM under the
lock, and the last of them unlocks and clears the trigger (60_exceptions.md R345, R346). -/
def Obligations.DmaCopiesOnePageIn160Ticks : Prop :=
  ∀ (s : State) (v : Byte), s.dma.step = 0 → s.dma.trigger = v → v ≠ 0 →
    (∀ n, 1 ≤ n → n ≤ 160 → (dmaTicks n s).locks.dma = true) ∧
    (dmaTicks 161 s).locks.dma = false ∧ (dmaTicks 161 s).dma.step = 0 ∧ (dmaTicks 161 s).dma.trigger = 0 ∧
    ∀ i, i < 160 →
      peek (dmaTicks 161 s) (0xFE00 + BitVec.ofNat 16 i) = busRead s ((v ++ (0 : Byte)) + BitVec.ofNat 16 i) .dma

/-- The environment's move never touches the register file, IME, the slot, the timer, IE, the DMA controller and 0xFF46, the
cartridge, the DMA lock, and no byte of WRAM or HRAM (60_exceptions.md R350). -/
def Obligations.EnvironmentTouchesOnlyItsOwn : Prop :=
  ∀ s : State, (envStep s).regs = s.regs ∧ (envStep s).ime = s.ime ∧ (envStep s).cur = s.cur ∧
    (envStep s).timer = s.timer ∧ (envStep s).ie = s.ie ∧ (envStep s).dma = s.dma ∧ (envStep s).cart = s.cart ∧
    (envStep s).locks.dma = s.locks.dma ∧ (envStep s).sel = s.sel ∧
    ∀ a, region a = .wram ∨ region a = .hram → peek (envStep s) a = peek s a

/-! ### Frames over all instructions -/

/-- MEMORY FRAME, every instruction: in a quiet machine (no environment move to come, DMA idle and not triggered by the
instruction itself) every byte behind the bus outside the bytes it stores to reads as before, but for DIV, TIMA and IF,
which the timer changes; the cartridge's addresses read as before when none of them is stored to (20_memory.md R65, R74,
R79). -/
def Obligations.MemoryFrame : Prop :=
  ∀ (i : Instr) (s t : State), s.Quiet → 0xFF46 ∉ storeAddrs i s → exec i s = .next t →
    (∀ a, a ∉ storeAddrs i s → a ∉ timerAddrs → ¬isCart a → peek t a = peek s a) ∧
    ((∀ b, b ∈ storeAddrs i s → ¬isCart b) → ∀ a, isCart a → peek t a = peek s a)

/-- One tick of any instruction object, at any step and latches, changes no lock, neither DMA step nor DMA bank, neither
hidden bit of the timer, and neither input of the environment: no instruction and no bus address does (20_memory.md R70,
10_state.md R32, R33, 60_exceptions.md R331, R339). -/
def Obligations.TicksChangeNoLock : Prop :=
  ∀ (k : Kind) (n : Nat) (l : Latches) (s : State), let t := (kindTicks k n l s).state
    t.locks = s.locks ∧ t.dma.step = s.dma.step ∧ t.dma.bank = s.dma.bank ∧ t.timer.prevBit = s.timer.prevBit ∧
    t.timer.ovfPending = s.timer.ovfPending ∧ t.nibbles = s.nibbles ∧ t.env = s.env

/-- IME changes by DI, EI and RETI only, among all instructions, and by dispatch; no store reaches it (10_state.md R26). -/
def Obligations.ImeChangesOnlyByItsOwnInstructions : Prop :=
  (∀ (i : Instr) (s t : State), exec i s = .next t → i.kind ≠ .di → i.kind ≠ .ei → i.kind ≠ .reti → t.ime = s.ime) ∧
  (∀ (t : Irq) (s : State), (takeInterrupt t s).ime = false) ∧
  (∀ (s : State) (a : Word) (v : Byte) (src : Source), (busWrite s a v src).ime = s.ime)

/-- F changes only by the instructions whose rules write flags: every load and store but LD HL,SP+e8 and POP AF, the 16-bit
INC and DEC, RES, SET, every control transfer and every system instruction leave it (43_loads.md, 41_alu.md R173, R174,
42_rotate_shift_bit.md R214, R215, 44_control_flow.md, 45_system.md). -/
def Obligations.FlagFrame : Prop :=
  ∀ (i : Instr) (s t : State), exec i s = .next t →
    (match i.kind with
      | .ldRR _ _ | .ldRN _ _ | .ldRMemHl _ | .ldMemHlR _ | .ldMemHlN _ | .ldAInd _ | .ldIndA _ | .ldAAbs _ | .ldAbsA _
      | .ldhAN _ | .ldhNA _ | .ldAMemC | .ldMemCA | .ldRRN _ _ | .ldAbsSp _ | .ldSpHl | .push _ | .pop .bc | .pop .de
      | .pop .hl | .incRR _ | .decRR _ | .resR _ _ | .resMemHl _ | .setR _ _ | .setMemHl _ | .jp _ | .jpCc _ _ | .jpHl
      | .jr _ | .jrCc _ _ | .call _ | .callCc _ _ | .ret | .retCc _ | .reti | .rst _ | .nop | .halt | .stop | .di | .ei
      | .illegal _ => True
      | _ => False) →
    t.regs.f = s.regs.f

/-- From a quiescent state an M-cycle changes no register, neither IME nor IE, and no byte of WRAM or HRAM, and the HALT
stays; with no DMA trigger set the state stays quiescent (70_reset_and_hazards.md R395). -/
def Obligations.QuiescentStaysAsItIs : Prop :=
  ∀ s : State, quiescent s = true → ∃ t, systemStep s = .next t ∧ t.view = s.view ∧ t.ie = s.ie ∧
    (∃ n l, t.cur = some (.running .halt n l)) ∧
    (∀ a, region a = .wram ∨ region a = .hram → peek t a = peek s a) ∧ (s.dma.trigger = 0 → quiescent t = true)
end

