-- ==== Sys2Proof/Laws/State.lean ====
section
/-! SUPPORT. The fields of the state after each of its named updates, one lemma per field per update, true by rfl. -/

namespace Sys2Proof.Machine

/-! ### setRegs -/

@[simp] theorem setRegs_regs (s : State) (r : Regs) : (s.setRegs r).regs = r := rfl
@[simp] theorem setRegs_ime (s : State) (r : Regs) : (s.setRegs r).ime = s.ime := rfl
@[simp] theorem setRegs_cur (s : State) (r : Regs) : (s.setRegs r).cur = s.cur := rfl
@[simp] theorem setRegs_timer (s : State) (r : Regs) : (s.setRegs r).timer = s.timer := rfl
@[simp] theorem setRegs_iflag (s : State) (r : Regs) : (s.setRegs r).iflag = s.iflag := rfl
@[simp] theorem setRegs_ie (s : State) (r : Regs) : (s.setRegs r).ie = s.ie := rfl
@[simp] theorem setRegs_locks (s : State) (r : Regs) : (s.setRegs r).locks = s.locks := rfl
@[simp] theorem setRegs_dma (s : State) (r : Regs) : (s.setRegs r).dma = s.dma := rfl
@[simp] theorem setRegs_mem (s : State) (r : Regs) : (s.setRegs r).mem = s.mem := rfl
@[simp] theorem setRegs_cart (s : State) (r : Regs) : (s.setRegs r).cart = s.cart := rfl
@[simp] theorem setRegs_sel (s : State) (r : Regs) : (s.setRegs r).sel = s.sel := rfl
@[simp] theorem setRegs_sb (s : State) (r : Regs) : (s.setRegs r).sb = s.sb := rfl
@[simp] theorem setRegs_sc (s : State) (r : Regs) : (s.setRegs r).sc = s.sc := rfl
@[simp] theorem setRegs_ppu (s : State) (r : Regs) : (s.setRegs r).ppu = s.ppu := rfl
@[simp] theorem setRegs_nibbles (s : State) (r : Regs) : (s.setRegs r).nibbles = s.nibbles := rfl
@[simp] theorem setRegs_serialOut (s : State) (r : Regs) : (s.setRegs r).serialOut = s.serialOut := rfl
@[simp] theorem setRegs_env (s : State) (r : Regs) : (s.setRegs r).env = s.env := rfl
@[simp] theorem setRegs_illegalFault (s : State) (r : Regs) : (s.setRegs r).illegalFault = s.illegalFault := rfl

/-! ### advancePc -/

@[simp] theorem advancePc_regs (s : State) (n : Word) : (s.advancePc n).regs = { s.regs with pc := s.regs.pc + n } := rfl
@[simp] theorem advancePc_ime (s : State) (n : Word) : (s.advancePc n).ime = s.ime := rfl
@[simp] theorem advancePc_cur (s : State) (n : Word) : (s.advancePc n).cur = s.cur := rfl
@[simp] theorem advancePc_timer (s : State) (n : Word) : (s.advancePc n).timer = s.timer := rfl
@[simp] theorem advancePc_iflag (s : State) (n : Word) : (s.advancePc n).iflag = s.iflag := rfl
@[simp] theorem advancePc_ie (s : State) (n : Word) : (s.advancePc n).ie = s.ie := rfl
@[simp] theorem advancePc_locks (s : State) (n : Word) : (s.advancePc n).locks = s.locks := rfl
@[simp] theorem advancePc_dma (s : State) (n : Word) : (s.advancePc n).dma = s.dma := rfl
@[simp] theorem advancePc_mem (s : State) (n : Word) : (s.advancePc n).mem = s.mem := rfl
@[simp] theorem advancePc_cart (s : State) (n : Word) : (s.advancePc n).cart = s.cart := rfl
@[simp] theorem advancePc_sel (s : State) (n : Word) : (s.advancePc n).sel = s.sel := rfl
@[simp] theorem advancePc_sb (s : State) (n : Word) : (s.advancePc n).sb = s.sb := rfl
@[simp] theorem advancePc_sc (s : State) (n : Word) : (s.advancePc n).sc = s.sc := rfl
@[simp] theorem advancePc_ppu (s : State) (n : Word) : (s.advancePc n).ppu = s.ppu := rfl
@[simp] theorem advancePc_nibbles (s : State) (n : Word) : (s.advancePc n).nibbles = s.nibbles := rfl
@[simp] theorem advancePc_serialOut (s : State) (n : Word) : (s.advancePc n).serialOut = s.serialOut := rfl
@[simp] theorem advancePc_env (s : State) (n : Word) : (s.advancePc n).env = s.env := rfl
@[simp] theorem advancePc_illegalFault (s : State) (n : Word) : (s.advancePc n).illegalFault = s.illegalFault := rfl

/-! ### setPc -/

@[simp] theorem setPc_regs (s : State) (a : Word) : (s.setPc a).regs = { s.regs with pc := a } := rfl
@[simp] theorem setPc_ime (s : State) (a : Word) : (s.setPc a).ime = s.ime := rfl
@[simp] theorem setPc_cur (s : State) (a : Word) : (s.setPc a).cur = s.cur := rfl
@[simp] theorem setPc_timer (s : State) (a : Word) : (s.setPc a).timer = s.timer := rfl
@[simp] theorem setPc_iflag (s : State) (a : Word) : (s.setPc a).iflag = s.iflag := rfl
@[simp] theorem setPc_ie (s : State) (a : Word) : (s.setPc a).ie = s.ie := rfl
@[simp] theorem setPc_locks (s : State) (a : Word) : (s.setPc a).locks = s.locks := rfl
@[simp] theorem setPc_dma (s : State) (a : Word) : (s.setPc a).dma = s.dma := rfl
@[simp] theorem setPc_mem (s : State) (a : Word) : (s.setPc a).mem = s.mem := rfl
@[simp] theorem setPc_cart (s : State) (a : Word) : (s.setPc a).cart = s.cart := rfl
@[simp] theorem setPc_sel (s : State) (a : Word) : (s.setPc a).sel = s.sel := rfl
@[simp] theorem setPc_sb (s : State) (a : Word) : (s.setPc a).sb = s.sb := rfl
@[simp] theorem setPc_sc (s : State) (a : Word) : (s.setPc a).sc = s.sc := rfl
@[simp] theorem setPc_ppu (s : State) (a : Word) : (s.setPc a).ppu = s.ppu := rfl
@[simp] theorem setPc_nibbles (s : State) (a : Word) : (s.setPc a).nibbles = s.nibbles := rfl
@[simp] theorem setPc_serialOut (s : State) (a : Word) : (s.setPc a).serialOut = s.serialOut := rfl
@[simp] theorem setPc_env (s : State) (a : Word) : (s.setPc a).env = s.env := rfl
@[simp] theorem setPc_illegalFault (s : State) (a : Word) : (s.setPc a).illegalFault = s.illegalFault := rfl

/-! ### setSp -/

@[simp] theorem setSp_regs (s : State) (v : Word) : (s.setSp v).regs = { s.regs with sp := v } := rfl
@[simp] theorem setSp_ime (s : State) (v : Word) : (s.setSp v).ime = s.ime := rfl
@[simp] theorem setSp_cur (s : State) (v : Word) : (s.setSp v).cur = s.cur := rfl
@[simp] theorem setSp_timer (s : State) (v : Word) : (s.setSp v).timer = s.timer := rfl
@[simp] theorem setSp_iflag (s : State) (v : Word) : (s.setSp v).iflag = s.iflag := rfl
@[simp] theorem setSp_ie (s : State) (v : Word) : (s.setSp v).ie = s.ie := rfl
@[simp] theorem setSp_locks (s : State) (v : Word) : (s.setSp v).locks = s.locks := rfl
@[simp] theorem setSp_dma (s : State) (v : Word) : (s.setSp v).dma = s.dma := rfl
@[simp] theorem setSp_mem (s : State) (v : Word) : (s.setSp v).mem = s.mem := rfl
@[simp] theorem setSp_cart (s : State) (v : Word) : (s.setSp v).cart = s.cart := rfl
@[simp] theorem setSp_sel (s : State) (v : Word) : (s.setSp v).sel = s.sel := rfl
@[simp] theorem setSp_sb (s : State) (v : Word) : (s.setSp v).sb = s.sb := rfl
@[simp] theorem setSp_sc (s : State) (v : Word) : (s.setSp v).sc = s.sc := rfl
@[simp] theorem setSp_ppu (s : State) (v : Word) : (s.setSp v).ppu = s.ppu := rfl
@[simp] theorem setSp_nibbles (s : State) (v : Word) : (s.setSp v).nibbles = s.nibbles := rfl
@[simp] theorem setSp_serialOut (s : State) (v : Word) : (s.setSp v).serialOut = s.serialOut := rfl
@[simp] theorem setSp_env (s : State) (v : Word) : (s.setSp v).env = s.env := rfl
@[simp] theorem setSp_illegalFault (s : State) (v : Word) : (s.setSp v).illegalFault = s.illegalFault := rfl

/-! ### popSp -/

@[simp] theorem popSp_regs (s : State) : (s.popSp).regs = { s.regs with sp := s.regs.sp + 1 } := rfl
@[simp] theorem popSp_ime (s : State) : (s.popSp).ime = s.ime := rfl
@[simp] theorem popSp_cur (s : State) : (s.popSp).cur = s.cur := rfl
@[simp] theorem popSp_timer (s : State) : (s.popSp).timer = s.timer := rfl
@[simp] theorem popSp_iflag (s : State) : (s.popSp).iflag = s.iflag := rfl
@[simp] theorem popSp_ie (s : State) : (s.popSp).ie = s.ie := rfl
@[simp] theorem popSp_locks (s : State) : (s.popSp).locks = s.locks := rfl
@[simp] theorem popSp_dma (s : State) : (s.popSp).dma = s.dma := rfl
@[simp] theorem popSp_mem (s : State) : (s.popSp).mem = s.mem := rfl
@[simp] theorem popSp_cart (s : State) : (s.popSp).cart = s.cart := rfl
@[simp] theorem popSp_sel (s : State) : (s.popSp).sel = s.sel := rfl
@[simp] theorem popSp_sb (s : State) : (s.popSp).sb = s.sb := rfl
@[simp] theorem popSp_sc (s : State) : (s.popSp).sc = s.sc := rfl
@[simp] theorem popSp_ppu (s : State) : (s.popSp).ppu = s.ppu := rfl
@[simp] theorem popSp_nibbles (s : State) : (s.popSp).nibbles = s.nibbles := rfl
@[simp] theorem popSp_serialOut (s : State) : (s.popSp).serialOut = s.serialOut := rfl
@[simp] theorem popSp_env (s : State) : (s.popSp).env = s.env := rfl
@[simp] theorem popSp_illegalFault (s : State) : (s.popSp).illegalFault = s.illegalFault := rfl

/-! ### set8 -/

@[simp] theorem set8_regs (s : State) (x : R8) (v : Byte) : (s.set8 x v).regs = s.regs.set8 x v := rfl
@[simp] theorem set8_ime (s : State) (x : R8) (v : Byte) : (s.set8 x v).ime = s.ime := rfl
@[simp] theorem set8_cur (s : State) (x : R8) (v : Byte) : (s.set8 x v).cur = s.cur := rfl
@[simp] theorem set8_timer (s : State) (x : R8) (v : Byte) : (s.set8 x v).timer = s.timer := rfl
@[simp] theorem set8_iflag (s : State) (x : R8) (v : Byte) : (s.set8 x v).iflag = s.iflag := rfl
@[simp] theorem set8_ie (s : State) (x : R8) (v : Byte) : (s.set8 x v).ie = s.ie := rfl
@[simp] theorem set8_locks (s : State) (x : R8) (v : Byte) : (s.set8 x v).locks = s.locks := rfl
@[simp] theorem set8_dma (s : State) (x : R8) (v : Byte) : (s.set8 x v).dma = s.dma := rfl
@[simp] theorem set8_mem (s : State) (x : R8) (v : Byte) : (s.set8 x v).mem = s.mem := rfl
@[simp] theorem set8_cart (s : State) (x : R8) (v : Byte) : (s.set8 x v).cart = s.cart := rfl
@[simp] theorem set8_sel (s : State) (x : R8) (v : Byte) : (s.set8 x v).sel = s.sel := rfl
@[simp] theorem set8_sb (s : State) (x : R8) (v : Byte) : (s.set8 x v).sb = s.sb := rfl
@[simp] theorem set8_sc (s : State) (x : R8) (v : Byte) : (s.set8 x v).sc = s.sc := rfl
@[simp] theorem set8_ppu (s : State) (x : R8) (v : Byte) : (s.set8 x v).ppu = s.ppu := rfl
@[simp] theorem set8_nibbles (s : State) (x : R8) (v : Byte) : (s.set8 x v).nibbles = s.nibbles := rfl
@[simp] theorem set8_serialOut (s : State) (x : R8) (v : Byte) : (s.set8 x v).serialOut = s.serialOut := rfl
@[simp] theorem set8_env (s : State) (x : R8) (v : Byte) : (s.set8 x v).env = s.env := rfl
@[simp] theorem set8_illegalFault (s : State) (x : R8) (v : Byte) : (s.set8 x v).illegalFault = s.illegalFault := rfl

/-! ### acceptIrq -/

@[simp] theorem acceptIrq_regs (s : State) (t : Irq) : (acceptIrq t s).regs = s.regs := rfl
@[simp] theorem acceptIrq_ime (s : State) (t : Irq) : (acceptIrq t s).ime = false := rfl
@[simp] theorem acceptIrq_cur (s : State) (t : Irq) : (acceptIrq t s).cur = s.cur := rfl
@[simp] theorem acceptIrq_timer (s : State) (t : Irq) : (acceptIrq t s).timer = s.timer := rfl
@[simp] theorem acceptIrq_iflag (s : State) (t : Irq) : (acceptIrq t s).iflag = s.iflag &&& ~~~t.mask := rfl
@[simp] theorem acceptIrq_ie (s : State) (t : Irq) : (acceptIrq t s).ie = s.ie := rfl
@[simp] theorem acceptIrq_locks (s : State) (t : Irq) : (acceptIrq t s).locks = s.locks := rfl
@[simp] theorem acceptIrq_dma (s : State) (t : Irq) : (acceptIrq t s).dma = s.dma := rfl
@[simp] theorem acceptIrq_mem (s : State) (t : Irq) : (acceptIrq t s).mem = s.mem := rfl
@[simp] theorem acceptIrq_cart (s : State) (t : Irq) : (acceptIrq t s).cart = s.cart := rfl
@[simp] theorem acceptIrq_sel (s : State) (t : Irq) : (acceptIrq t s).sel = s.sel := rfl
@[simp] theorem acceptIrq_sb (s : State) (t : Irq) : (acceptIrq t s).sb = s.sb := rfl
@[simp] theorem acceptIrq_sc (s : State) (t : Irq) : (acceptIrq t s).sc = s.sc := rfl
@[simp] theorem acceptIrq_ppu (s : State) (t : Irq) : (acceptIrq t s).ppu = s.ppu := rfl
@[simp] theorem acceptIrq_nibbles (s : State) (t : Irq) : (acceptIrq t s).nibbles = s.nibbles := rfl
@[simp] theorem acceptIrq_serialOut (s : State) (t : Irq) : (acceptIrq t s).serialOut = s.serialOut := rfl
@[simp] theorem acceptIrq_env (s : State) (t : Irq) : (acceptIrq t s).env = s.env := rfl
@[simp] theorem acceptIrq_illegalFault (s : State) (t : Irq) : (acceptIrq t s).illegalFault = s.illegalFault := rfl

/-! ### returnFromInterrupt -/

@[simp] theorem returnFromInterrupt_regs (s : State) (hi lo : Byte) : (returnFromInterrupt hi lo s).regs = { s.regs with pc := joinBytes hi lo } := rfl
@[simp] theorem returnFromInterrupt_ime (s : State) (hi lo : Byte) : (returnFromInterrupt hi lo s).ime = true := rfl
@[simp] theorem returnFromInterrupt_cur (s : State) (hi lo : Byte) : (returnFromInterrupt hi lo s).cur = s.cur := rfl
@[simp] theorem returnFromInterrupt_timer (s : State) (hi lo : Byte) : (returnFromInterrupt hi lo s).timer = s.timer := rfl
@[simp] theorem returnFromInterrupt_iflag (s : State) (hi lo : Byte) : (returnFromInterrupt hi lo s).iflag = s.iflag := rfl
@[simp] theorem returnFromInterrupt_ie (s : State) (hi lo : Byte) : (returnFromInterrupt hi lo s).ie = s.ie := rfl
@[simp] theorem returnFromInterrupt_locks (s : State) (hi lo : Byte) : (returnFromInterrupt hi lo s).locks = s.locks := rfl
@[simp] theorem returnFromInterrupt_dma (s : State) (hi lo : Byte) : (returnFromInterrupt hi lo s).dma = s.dma := rfl
@[simp] theorem returnFromInterrupt_mem (s : State) (hi lo : Byte) : (returnFromInterrupt hi lo s).mem = s.mem := rfl
@[simp] theorem returnFromInterrupt_cart (s : State) (hi lo : Byte) : (returnFromInterrupt hi lo s).cart = s.cart := rfl
@[simp] theorem returnFromInterrupt_sel (s : State) (hi lo : Byte) : (returnFromInterrupt hi lo s).sel = s.sel := rfl
@[simp] theorem returnFromInterrupt_sb (s : State) (hi lo : Byte) : (returnFromInterrupt hi lo s).sb = s.sb := rfl
@[simp] theorem returnFromInterrupt_sc (s : State) (hi lo : Byte) : (returnFromInterrupt hi lo s).sc = s.sc := rfl
@[simp] theorem returnFromInterrupt_ppu (s : State) (hi lo : Byte) : (returnFromInterrupt hi lo s).ppu = s.ppu := rfl
@[simp] theorem returnFromInterrupt_nibbles (s : State) (hi lo : Byte) : (returnFromInterrupt hi lo s).nibbles = s.nibbles := rfl
@[simp] theorem returnFromInterrupt_serialOut (s : State) (hi lo : Byte) : (returnFromInterrupt hi lo s).serialOut = s.serialOut := rfl
@[simp] theorem returnFromInterrupt_env (s : State) (hi lo : Byte) : (returnFromInterrupt hi lo s).env = s.env := rfl
@[simp] theorem returnFromInterrupt_illegalFault (s : State) (hi lo : Byte) : (returnFromInterrupt hi lo s).illegalFault = s.illegalFault := rfl

/-! ### timerTick -/

@[simp] theorem timerTick_regs (s : State) : (timerTick s).regs = s.regs := rfl
@[simp] theorem timerTick_ime (s : State) : (timerTick s).ime = s.ime := rfl
@[simp] theorem timerTick_cur (s : State) : (timerTick s).cur = s.cur := rfl
@[simp] theorem timerTick_timer (s : State) : (timerTick s).timer = s.timer.tick := rfl
@[simp] theorem timerTick_iflag (s : State) : (timerTick s).iflag = if s.timer.ovfPending then s.iflag ||| timerMask else s.iflag := rfl
@[simp] theorem timerTick_ie (s : State) : (timerTick s).ie = s.ie := rfl
@[simp] theorem timerTick_locks (s : State) : (timerTick s).locks = s.locks := rfl
@[simp] theorem timerTick_dma (s : State) : (timerTick s).dma = s.dma := rfl
@[simp] theorem timerTick_mem (s : State) : (timerTick s).mem = s.mem := rfl
@[simp] theorem timerTick_cart (s : State) : (timerTick s).cart = s.cart := rfl
@[simp] theorem timerTick_sel (s : State) : (timerTick s).sel = s.sel := rfl
@[simp] theorem timerTick_sb (s : State) : (timerTick s).sb = s.sb := rfl
@[simp] theorem timerTick_sc (s : State) : (timerTick s).sc = s.sc := rfl
@[simp] theorem timerTick_ppu (s : State) : (timerTick s).ppu = s.ppu := rfl
@[simp] theorem timerTick_nibbles (s : State) : (timerTick s).nibbles = s.nibbles := rfl
@[simp] theorem timerTick_serialOut (s : State) : (timerTick s).serialOut = s.serialOut := rfl
@[simp] theorem timerTick_env (s : State) : (timerTick s).env = s.env := rfl
@[simp] theorem timerTick_illegalFault (s : State) : (timerTick s).illegalFault = s.illegalFault := rfl

end Sys2Proof.Machine
end

