-- ==== Sys2Proof/Laws/Cycle.lean ====
section
/-! SUPPORT. What an M-cycle does not touch: the register file, IME and the slot pass through every memory access and
through the end of an M-cycle unchanged, so an instruction's own writes to them can be moved past it. -/

namespace Sys2Proof.Machine

/-- The state with the parts only the CPU writes replaced: the register file, IME and the slot. -/
def State.withCpu (s : State) (r : Regs) (b : Bool) (c : Option Obj) : State := { s with regs := r, ime := b, cur := c }

theorem withCpu_self (s : State) : s.withCpu s.regs s.ime s.cur = s := rfl
theorem withCpu_withCpu (s : State) (r r' : Regs) (b b' : Bool) (c c' : Option Obj) :
    (s.withCpu r b c).withCpu r' b' c' = s.withCpu r' b' c' := rfl
theorem withCpu_regs (s : State) (r : Regs) (b : Bool) (c : Option Obj) : (s.withCpu r b c).regs = r := rfl
theorem withCpu_ime (s : State) (r : Regs) (b : Bool) (c : Option Obj) : (s.withCpu r b c).ime = b := rfl
theorem withCpu_cur (s : State) (r : Regs) (b : Bool) (c : Option Obj) : (s.withCpu r b c).cur = c := rfl

/-! ### The updates an instruction makes, as one form -/

theorem setRegs_eq (s : State) (g : Regs) : s.setRegs g = s.withCpu g s.ime s.cur := rfl
theorem advancePc_eq (s : State) (n : Word) :
    s.advancePc n = s.withCpu { s.regs with pc := s.regs.pc + n } s.ime s.cur := rfl
theorem setPc_eq (s : State) (a : Word) : s.setPc a = s.withCpu { s.regs with pc := a } s.ime s.cur := rfl
theorem setSp_eq (s : State) (a : Word) : s.setSp a = s.withCpu { s.regs with sp := a } s.ime s.cur := rfl
theorem popSp_eq (s : State) : s.popSp = s.withCpu { s.regs with sp := s.regs.sp + 1 } s.ime s.cur := rfl
theorem set8_eq (s : State) (x : R8) (v : Byte) : s.set8 x v = s.withCpu (s.regs.set8 x v) s.ime s.cur := rfl
theorem alu_eq (s : State) (o : AluOp) (v : Byte) : s.alu o v = s.withCpu (s.regs.alu o v) s.ime s.cur := rfl
theorem returnFromInterrupt_eq (hi lo : Byte) (s : State) :
    returnFromInterrupt hi lo s = s.withCpu { s.regs with pc := joinBytes hi lo } true s.cur := rfl

theorem pushByte_eq (s : State) (v : Byte) :
    pushByte s v = cpuWrite (s.withCpu { s.regs with sp := s.regs.sp - 1 } s.ime s.cur) (s.regs.sp - 1) v := rfl
theorem popByte_eq (s : State) : popByte s = cpuRead s s.regs.sp := rfl

/-! ### Memory accesses -/

section
variable (s : State) (r : Regs) (b : Bool) (c : Option Obj)

theorem ioRead_withCpu (a : Word) : ioRead (s.withCpu r b c) a = ioRead s a := rfl
theorem peek_withCpu (a : Word) : peek (s.withCpu r b c) a = peek s a := rfl
theorem busRead_withCpu (a : Word) (src : Source) : busRead (s.withCpu r b c) a src = busRead s a src := rfl
theorem cpuRead_withCpu (a : Word) : cpuRead (s.withCpu r b c) a = cpuRead s a := rfl

theorem writeSc_withCpu (v : Byte) : writeSc (s.withCpu r b c) v = (writeSc s v).withCpu r b c := by
  unfold writeSc; split <;> rfl

theorem ioWrite_withCpu (a : Word) (v : Byte) : ioWrite (s.withCpu r b c) a v = (ioWrite s a v).withCpu r b c := by
  unfold ioWrite
  cases ioReg a <;> first | rfl | exact writeSc_withCpu s r b c v

theorem poke_withCpu (a : Word) (v : Byte) : poke (s.withCpu r b c) a v = (poke s a v).withCpu r b c := by
  unfold poke
  cases region a <;> first | rfl | exact ioWrite_withCpu s r b c a v

theorem busWrite_withCpu (a : Word) (v : Byte) (src : Source) :
    busWrite (s.withCpu r b c) a v src = (busWrite s a v src).withCpu r b c := by
  unfold busWrite
  split <;> rename_i h
  · rw [if_pos (by exact h)]
  · rw [if_neg (by exact h), poke_withCpu]

theorem cpuWrite_withCpu (a : Word) (v : Byte) :
    cpuWrite (s.withCpu r b c) a v = (cpuWrite s a v).withCpu r b c := busWrite_withCpu s r b c a v .cpu

/-! ### The end of an M-cycle -/

theorem timerTick_withCpu : timerTick (s.withCpu r b c) = (timerTick s).withCpu r b c := rfl

theorem dmaCopy_withCpu (i : Nat) : dmaCopy (s.withCpu r b c) i = (dmaCopy s i).withCpu r b c :=
  busWrite_withCpu s r b c _ _ _

theorem dmaTick_withCpu : dmaTick (s.withCpu r b c) = (dmaTick s).withCpu r b c := by
  simp only [dmaTick, dmaCopy_withCpu, show (s.withCpu r b c).dma = s.dma from rfl]
  split
  · split <;> rfl
  · split <;> rfl

theorem envApply_withCpu (a : EnvAction) : envApply (s.withCpu r b c) a = (envApply s a).withCpu r b c := by
  cases a <;> try rfl
  case ppuWrite a v =>
    simp only [envApply]
    cases region a <;> first | rfl | exact busWrite_withCpu s r b c a v .ppu

theorem envFold_withCpu (move : List EnvAction) :
    move.foldl envApply (s.withCpu r b c) = (move.foldl envApply s).withCpu r b c := by
  induction move generalizing s with
  | nil => rfl
  | cons a t ih => rw [List.foldl_cons, envApply_withCpu, ih]; rfl

theorem envStep_withCpu : envStep (s.withCpu r b c) = (envStep s).withCpu r b c := by
  unfold envStep
  show (match s.env with | [] => _ | move :: later => _) = _
  cases s.env with
  | nil => rfl
  | cons move later => exact envFold_withCpu { s with env := later } r b c move

/-- After a tick that keeps or retires its object, the rest of the M-cycle passes the CPU's own parts through. -/
theorem endCycle_withCpu : endCycle .running (s.withCpu r b c) = (endCycle .running s).withCpu r b c := by
  show dmaTick (envStep (timerTick (s.withCpu r b c))) = _
  rw [timerTick_withCpu, envStep_withCpu, dmaTick_withCpu]; rfl

end

/-- A retired object's M-cycle ends as any other. -/
theorem endCycle_finished (s : State) : endCycle .finished s = endCycle .running s := rfl

theorem endCycle_running_eq (s : State) : endCycle .running s = dmaTick (envStep (timerTick s)) := rfl

/-- What stands in the CPU's own parts after a function that passes them through is what stood there before. -/
theorem regs_of_withCpu {f : State → State} (h : ∀ s r b c, f (s.withCpu r b c) = (f s).withCpu r b c) (s : State) :
    (f s).regs = s.regs := by
  have e := congrArg State.regs (h s s.regs s.ime s.cur)
  exact e
theorem ime_of_withCpu {f : State → State} (h : ∀ s r b c, f (s.withCpu r b c) = (f s).withCpu r b c) (s : State) :
    (f s).ime = s.ime := by
  have e := congrArg State.ime (h s s.regs s.ime s.cur)
  exact e
theorem cur_of_withCpu {f : State → State} (h : ∀ s r b c, f (s.withCpu r b c) = (f s).withCpu r b c) (s : State) :
    (f s).cur = s.cur := by
  have e := congrArg State.cur (h s s.regs s.ime s.cur)
  exact e

theorem endCycle_regs (s : State) : (endCycle .running s).regs = s.regs := regs_of_withCpu endCycle_withCpu s
theorem endCycle_ime (s : State) : (endCycle .running s).ime = s.ime := ime_of_withCpu endCycle_withCpu s
theorem endCycle_cur (s : State) : (endCycle .running s).cur = s.cur := cur_of_withCpu endCycle_withCpu s

theorem cpuWrite_regs (s : State) (a : Word) (v : Byte) : (cpuWrite s a v).regs = s.regs :=
  regs_of_withCpu (f := fun s => cpuWrite s a v) (fun s r b c => cpuWrite_withCpu s r b c a v) s
theorem cpuWrite_ime (s : State) (a : Word) (v : Byte) : (cpuWrite s a v).ime = s.ime :=
  ime_of_withCpu (f := fun s => cpuWrite s a v) (fun s r b c => cpuWrite_withCpu s r b c a v) s
theorem cpuWrite_cur (s : State) (a : Word) (v : Byte) : (cpuWrite s a v).cur = s.cur :=
  cur_of_withCpu (f := fun s => cpuWrite s a v) (fun s r b c => cpuWrite_withCpu s r b c a v) s

theorem dmaTick_regs (s : State) : (dmaTick s).regs = s.regs := regs_of_withCpu dmaTick_withCpu s
theorem dmaTick_ime (s : State) : (dmaTick s).ime = s.ime := ime_of_withCpu dmaTick_withCpu s
theorem dmaTick_cur (s : State) : (dmaTick s).cur = s.cur := cur_of_withCpu dmaTick_withCpu s
theorem envStep_regs (s : State) : (envStep s).regs = s.regs := regs_of_withCpu envStep_withCpu s
theorem envStep_ime (s : State) : (envStep s).ime = s.ime := ime_of_withCpu envStep_withCpu s
theorem envStep_cur (s : State) : (envStep s).cur = s.cur := cur_of_withCpu envStep_withCpu s

/-! ### Idle M-cycles -/

theorem idle_zero (s : State) : idle 0 s = s := rfl
theorem idle_succ (n : Nat) (s : State) : idle (n + 1) s = idle n (endCycle .running s) := rfl

theorem idle_withCpu (n : Nat) (s : State) (r : Regs) (b : Bool) (c : Option Obj) :
    idle n (s.withCpu r b c) = (idle n s).withCpu r b c := by
  induction n generalizing s with
  | zero => rfl
  | succ n ih => rw [idle_succ, endCycle_withCpu, ih]; rfl

theorem idle_regs (n : Nat) (s : State) : (idle n s).regs = s.regs := regs_of_withCpu (idle_withCpu n) s
theorem idle_ime (n : Nat) (s : State) : (idle n s).ime = s.ime := ime_of_withCpu (idle_withCpu n) s
theorem idle_cur (n : Nat) (s : State) : (idle n s).cur = s.cur := cur_of_withCpu (idle_withCpu n) s

theorem idle_add (m n : Nat) (s : State) : idle (m + n) s = idle n (idle m s) := by
  induction m generalizing s with
  | zero => simp [idle_zero]
  | succ m ih => rw [Nat.succ_add, idle_succ, idle_succ, ih]

/-! ### The M-cycles of an object -/

theorem retire_running (step : Nat) (l : Latches) (s : State) : retire .running step l s = s := rfl
theorem retire_finished (step : Nat) (l : Latches) (s : State) :
    retire .finished step l s = s.withCpu s.regs s.ime none := rfl
theorem retire_halt (step : Nat) (l : Latches) (s : State) :
    retire .halt step l s = s.withCpu s.regs s.ime (some (.running .halt (step + 1) l)) := rfl
theorem retire_stop (step : Nat) (l : Latches) (s : State) :
    retire .stop step l s = s.withCpu s.regs s.ime (some (.running .stop (step + 1) l)) := rfl

theorem runTicks_zero (t : Ticks) (step : Nat) (l : Latches) (s : State) : runTicks 0 t step l s = s := rfl

/-- An M-cycle that leaves more to come. -/
theorem runTicks_more {fuel : Nat} {t : Ticks} {step : Nat} {l l' : Latches} {s s' : State}
    (h : t step l s = .more s' l') :
    runTicks (fuel + 1) t step l s = runTicks fuel t (step + 1) l' (endCycle .running s') := by
  simp [runTicks, cycle, h, Tick.more, retire]

/-- The last M-cycle of an object: the slot is emptied. -/
theorem runTicks_last {fuel : Nat} {t : Ticks} {step : Nat} {l l' : Latches} {s s' : State}
    (h : t step l s = .last s' l') :
    runTicks (fuel + 1) t step l s = endCycle .running { s' with cur := none } := by
  simp [runTicks, cycle, h, Tick.last, retire, endCycle_finished]

end Sys2Proof.Machine
end

