-- ==== Sys2Proof/Laws/Memory.lean ====
section
/-! SUPPORT. The laws of memory: reading after writing, and the canonical form kept. -/

namespace Sys2Proof.Machine

/-! ### Reading after writing -/

theorem readCells_filter (cs : List Host.Cell) (a b : Nat) :
    readCells (cs.filter (fun c => c.1 != a)) b = if b = a then 0 else readCells cs b := by
  induction cs with
  | nil => simp [readCells]
  | cons c t ih =>
    obtain ⟨k, v⟩ := c
    by_cases hk : k = a <;> by_cases hb : b = k <;> simp_all [readCells]

theorem readCells_insertCell (cs : List Host.Cell) (a b : Nat) (v : Byte) :
    readCells (insertCell a v cs) b = if b = a then v else readCells cs b := by
  induction cs with
  | nil => simp [insertCell, readCells]
  | cons c t ih =>
    obtain ⟨k, w⟩ := c
    unfold insertCell
    split
    · simp [readCells]
    · split
      · subst_vars; by_cases hb : b = k <;> simp [readCells, hb]
      · rename_i hk
        by_cases hb : b = k
        · subst hb; simp [readCells, Ne.symm hk]
        · simp [readCells, hb, ih]

/-- A byte read after a byte write, in any list of cells. -/
theorem readCells_writeCells (cs : List Host.Cell) (a b : Nat) (v : Byte) :
    readCells (writeCells cs a v) b = if b = a then v else readCells cs b := by
  unfold writeCells
  split
  · subst_vars; exact readCells_filter cs a b
  · exact readCells_insertCell cs a b v

/-- A byte read after a byte write. -/
theorem Memory.read_write (m : Memory) (a b : Word) (v : Byte) :
    (m.write a v).read b = if b = a then v else m.read b := by
  simp [Memory.read, Memory.write, readCells_writeCells, BitVec.toNat_eq]

@[simp] theorem Memory.read_write_same (m : Memory) (a : Word) (v : Byte) : (m.write a v).read a = v := by
  simp [Memory.read_write]

theorem Memory.read_write_other (m : Memory) {a b : Word} (v : Byte) (h : b ≠ a) :
    (m.write a v).read b = m.read b := by
  simp [Memory.read_write, h]

@[simp] theorem Memory.read_empty (a : Word) : Memory.empty.read a = 0 := rfl

/-! ### The canonical form -/

theorem risingFrom_weaken {lo lo' : Nat} (h : lo' ≤ lo) (cs : List Host.Cell) (hr : risingFrom lo cs = true) :
    risingFrom lo' cs = true := by
  cases cs with
  | nil => rfl
  | cons c t =>
    obtain ⟨k, v⟩ := c
    simp only [risingFrom, Bool.and_eq_true, decide_eq_true_eq] at hr ⊢
    exact ⟨by omega, hr.2⟩

theorem risingFrom_filter (p : Host.Cell → Bool) (cs : List Host.Cell) (lo : Nat) (h : risingFrom lo cs = true) :
    risingFrom lo (cs.filter p) = true := by
  induction cs generalizing lo with
  | nil => rfl
  | cons c t ih =>
    obtain ⟨k, v⟩ := c
    simp only [risingFrom, Bool.and_eq_true, decide_eq_true_eq] at h
    rw [List.filter_cons]
    split
    · simp only [risingFrom, Bool.and_eq_true, decide_eq_true_eq]
      exact ⟨h.1, ih _ h.2⟩
    · exact risingFrom_weaken (by omega) _ (ih _ h.2)

theorem risingFrom_insertCell (a : Nat) (v : Byte) (cs : List Host.Cell) (lo : Nat) (ha : lo ≤ a)
    (h : risingFrom lo cs = true) : risingFrom lo (insertCell a v cs) = true := by
  induction cs generalizing lo with
  | nil => simp [insertCell, risingFrom, ha]
  | cons c t ih =>
    obtain ⟨k, w⟩ := c
    simp only [risingFrom, Bool.and_eq_true, decide_eq_true_eq] at h
    unfold insertCell
    split
    · simp only [risingFrom, Bool.and_eq_true, decide_eq_true_eq]
      exact ⟨ha, by omega, h.2⟩
    · split
      · subst_vars
        simp only [risingFrom, Bool.and_eq_true, decide_eq_true_eq]
        exact ⟨ha, h.2⟩
      · simp only [risingFrom, Bool.and_eq_true, decide_eq_true_eq]
        exact ⟨h.1, ih _ (by omega) h.2⟩

theorem mem_insertCell {a : Nat} {v : Byte} {cs : List Host.Cell} {c : Host.Cell} (h : c ∈ insertCell a v cs) :
    c = (a, v) ∨ c ∈ cs := by
  induction cs with
  | nil => simpa [insertCell] using h
  | cons d t ih =>
    obtain ⟨k, w⟩ := d
    unfold insertCell at h
    split at h
    · simpa using h
    · split at h
      · rcases List.mem_cons.1 h with h | h
        · exact .inl h
        · exact .inr (List.mem_cons_of_mem _ h)
      · rcases List.mem_cons.1 h with h | h
        · exact .inr (h ▸ List.mem_cons_self)
        · rcases ih h with h | h
          · exact .inl h
          · exact .inr (List.mem_cons_of_mem _ h)

/-- Every cell after a write is the one written, with its nonzero byte, or an old one. -/
theorem mem_writeCells {a : Nat} {v : Byte} {cs : List Host.Cell} {c : Host.Cell} (h : c ∈ writeCells cs a v) :
    (c = (a, v) ∧ v ≠ 0) ∨ c ∈ cs := by
  unfold writeCells at h
  split at h
  · exact .inr (List.mem_of_mem_filter h)
  · rename_i hv
    rcases mem_insertCell h with h | h
    · exact .inl ⟨h, hv⟩
    · exact .inr h

/-- A write keeps the canonical form. -/
theorem Memory.wf_write {m : Memory} (a : Word) (v : Byte) (h : m.wf = true) : (m.write a v).wf = true := by
  simp only [Memory.wf, Bool.and_eq_true, List.all_eq_true, bne_iff_ne] at h ⊢
  refine ⟨?_, fun c hc => ?_⟩
  · simp only [Memory.write, writeCells]
    split
    · exact risingFrom_filter _ _ _ h.1
    · exact risingFrom_insertCell _ _ _ _ (Nat.zero_le _) h.1
  · rcases mem_writeCells hc with ⟨rfl, hv⟩ | hc
    · exact hv
    · exact h.2 c hc

@[simp] theorem Memory.wf_empty : Memory.empty.wf = true := rfl

/-- A write at a RAM address lists RAM addresses only. -/
theorem Memory.onlyRam_write {m : Memory} {a : Word} (v : Byte) (ha : isRam (region a) = true)
    (h : m.onlyRam = true) : (m.write a v).onlyRam = true := by
  simp only [Memory.onlyRam, List.all_eq_true, Bool.and_eq_true, decide_eq_true_eq] at h ⊢
  intro c hc
  rcases mem_writeCells hc with ⟨rfl, -⟩ | hc
  · exact ⟨a.isLt, by simpa using ha⟩
  · exact h c hc

@[simp] theorem Memory.onlyRam_empty : Memory.empty.onlyRam = true := rfl

end Sys2Proof.Machine
end

