-- ==== Sys2Proof/Laws/Bus.lean ====
section
/-! SUPPORT. What a bus write, a DMA tick and an environment move can do, once for each: the fields they leave, the bytes
they leave, the canonical form they keep. -/

namespace Sys2Proof.Machine

/-! ### Stores -/

/-- Every store behind the bus leaves these parts of the state. -/
structure StoreFrame (s t : State) : Prop where
  locks : t.locks = s.locks
  step : t.dma.step = s.dma.step
  bank : t.dma.bank = s.dma.bank
  prevBit : t.timer.prevBit = s.timer.prevBit
  ovfPending : t.timer.ovfPending = s.timer.ovfPending
  nibbles : t.nibbles = s.nibbles
  env : t.env = s.env
  illegalFault : t.illegalFault = s.illegalFault

theorem StoreFrame.refl (s : State) : StoreFrame s s := ⟨rfl, rfl, rfl, rfl, rfl, rfl, rfl, rfl⟩

theorem StoreFrame.trans {s t u : State} (h : StoreFrame s t) (k : StoreFrame t u) : StoreFrame s u :=
  ⟨k.locks.trans h.locks, k.step.trans h.step, k.bank.trans h.bank, k.prevBit.trans h.prevBit,
   k.ovfPending.trans h.ovfPending, k.nibbles.trans h.nibbles, k.env.trans h.env,
   k.illegalFault.trans h.illegalFault⟩

theorem writeSc_frame (s : State) (v : Byte) : StoreFrame s (writeSc s v) := by
  unfold writeSc; split <;> exact ⟨rfl, rfl, rfl, rfl, rfl, rfl, rfl, rfl⟩

theorem ioWrite_frame (s : State) (a : Word) (v : Byte) : StoreFrame s (ioWrite s a v) := by
  unfold ioWrite
  cases ioReg a with
  | sc => exact writeSc_frame s v
  | _ => exact ⟨rfl, rfl, rfl, rfl, rfl, rfl, rfl, rfl⟩

theorem poke_frame (s : State) (a : Word) (v : Byte) : StoreFrame s (poke s a v) := by
  unfold poke
  cases region a with
  | io => exact ioWrite_frame s a v
  | _ => exact ⟨rfl, rfl, rfl, rfl, rfl, rfl, rfl, rfl⟩

theorem busWrite_frame (s : State) (a : Word) (v : Byte) (src : Source) : StoreFrame s (busWrite s a v src) := by
  unfold busWrite; split
  · exact .refl s
  · exact poke_frame s a v

/-- What a store that is not to memory's cells leaves of them: everything. -/
theorem writeSc_mem (s : State) (v : Byte) : (writeSc s v).mem = s.mem ∧ (writeSc s v).cart = s.cart := by
  unfold writeSc; split <;> exact ⟨rfl, rfl⟩

theorem ioWrite_mem (s : State) (a : Word) (v : Byte) :
    (ioWrite s a v).mem = s.mem ∧ (ioWrite s a v).cart = s.cart := by
  unfold ioWrite
  cases ioReg a with
  | sc => exact writeSc_mem s v
  | _ => exact ⟨rfl, rfl⟩

/-- A store writes one cell of a RAM region, or leaves the cells as they are. -/
theorem poke_mem (s : State) (a : Word) (v : Byte) :
    (poke s a v).mem = if isRam (region a) then s.mem.write a v else s.mem := by
  unfold poke
  cases region a with
  | io => exact (ioWrite_mem s a v).1
  | _ => rfl

/-- A store reaches the cartridge through its two regions only. -/
theorem poke_cart (s : State) (a : Word) (v : Byte) :
    (poke s a v).cart = if region a = .rom ∨ region a = .eram then s.cart.write a v else s.cart := by
  unfold poke
  cases region a with
  | io => exact (ioWrite_mem s a v).2
  | _ => rfl

theorem ioWrite_ie (s : State) (a : Word) (v : Byte) : (ioWrite s a v).ie = s.ie := by
  unfold ioWrite
  cases ioReg a with
  | sc => show (writeSc s v).ie = s.ie; unfold writeSc; split <;> rfl
  | _ => rfl

/-- A store reaches IE at its own address only. -/
theorem poke_ie (s : State) (a : Word) (v : Byte) : (poke s a v).ie = if region a = .ie then v else s.ie := by
  unfold poke
  cases region a with
  | io => exact ioWrite_ie s a v
  | _ => rfl

theorem region_ie (a : Word) : region a = .ie ↔ a = 0xFFFF := by
  have h := a.isLt
  constructor
  · intro e
    apply BitVec.eq_of_toNat_eq
    unfold region at e
    dsimp only at e
    repeat (split at e; · exact absurd e (by decide))
    show a.toNat = 65535
    omega
  · rintro rfl; rfl

theorem Cart.wf_write (c : Cart) (a : Word) (v : Byte) (h : c.wf = true) : (c.write a v).wf = true := by
  cases c with
  | staticRom rom => exact h
  | mapper st => rfl

/-- The canonical form of the two memories. -/
structure MemoryForm (s : State) : Prop where
  memWf : s.mem.wf = true
  memRam : s.mem.onlyRam = true
  cartWf : s.cart.wf = true

/-- Every store keeps the canonical form. -/
theorem poke_form {s : State} (a : Word) (v : Byte) (h : MemoryForm s) : MemoryForm (poke s a v) := by
  refine ⟨?_, ?_, ?_⟩
  · rw [poke_mem]; split
    · exact Memory.wf_write a v h.memWf
    · exact h.memWf
  · rw [poke_mem]; split
    · exact Memory.onlyRam_write v ‹_› h.memRam
    · exact h.memRam
  · rw [poke_cart]; split
    · exact Cart.wf_write _ a v h.cartWf
    · exact h.cartWf

theorem busWrite_form {s : State} (a : Word) (v : Byte) (src : Source) (h : MemoryForm s) :
    MemoryForm (busWrite s a v src) := by
  unfold busWrite; split
  · exact h
  · exact poke_form a v h

/-! ### The byte behind the bus after a store -/

/-- The address of an I/O register that has one. -/
def ioAddr : IoReg → Word
  | .joyp => 0xFF00
  | .sb => 0xFF01
  | .sc => 0xFF02
  | .div => 0xFF04
  | .tima => 0xFF05
  | .tma => 0xFF06
  | .tac => 0xFF07
  | .iflag => 0xFF0F
  | .ppu .ff40 => 0xFF40
  | .ppu .ff41 => 0xFF41
  | .ppu .ff42 => 0xFF42
  | .ppu .ff43 => 0xFF43
  | .ppu .ff44 => 0xFF44
  | .ppu .ff45 => 0xFF45
  | .ppu .ff47 => 0xFF47
  | .ppu .ff48 => 0xFF48
  | .ppu .ff49 => 0xFF49
  | .dma => 0xFF46
  | .unassigned => 0xFF03

/-- Two addresses do not share an I/O register. -/
theorem ioReg_addr (a : Word) (h : ioReg a ≠ .unassigned) : a = ioAddr (ioReg a) := by
  apply BitVec.eq_of_toNat_eq
  revert h
  unfold ioReg
  split <;> intro h <;> first | exact absurd rfl h | simpa [ioAddr] using ‹_›

theorem ioReg_ne {a b : Word} (h : b ≠ a) (hb : ioReg b ≠ .unassigned) : ioReg a ≠ ioReg b := by
  intro e
  exact h ((ioReg_addr b hb).trans ((ioReg_addr a (e ▸ hb)).trans (by rw [e])).symm)

theorem Ppu.get_set_other (p : Ppu) {r q : PpuReg} (v : Byte) (h : q ≠ r) : (p.set r v).get q = p.get q := by
  cases r <;> cases q <;> first | rfl | exact absurd rfl h

theorem ioRead_writeSc (s : State) (a : Word) (v : Byte) (h : ioReg a ≠ .sc) : ioRead (writeSc s v) a = ioRead s a := by
  have key : ∀ (l : List Byte), ioRead { s with sc := v, serialOut := l } a = ioRead s a := by
    intro l
    unfold ioRead
    cases hr : ioReg a with
    | sc => exact absurd hr h
    | _ => rfl
  unfold writeSc
  split
  · exact key _
  · exact key s.serialOut

/-- An I/O write changes no other I/O byte. -/
theorem ioRead_ioWrite_other (s : State) {a b : Word} (v : Byte) (h : b ≠ a) :
    ioRead (ioWrite s a v) b = ioRead s b := by
  by_cases hb : ioReg b = .unassigned
  · unfold ioRead; rw [hb]
  · have hne := ioReg_ne h hb
    cases ha : ioReg a with
    | sc =>
      have hw : ioWrite s a v = writeSc s v := by unfold ioWrite; rw [ha]
      rw [hw]; exact ioRead_writeSc s b v (fun e => hne (by rw [ha, e]))
    | ppu r =>
      have hw : ioWrite s a v = { s with ppu := s.ppu.set r v } := by unfold ioWrite; rw [ha]
      rw [hw]; unfold ioRead
      cases hq : ioReg b with
      | ppu q => exact Ppu.get_set_other _ v (fun e => hne (by rw [ha, hq, e]))
      | _ => rfl
    | unassigned => unfold ioWrite; rw [ha]
    | _ =>
      unfold ioWrite ioRead; rw [ha]
      cases hq : ioReg b <;> first | rfl | exact absurd (ha.trans hq.symm) hne

/-- A store changes the byte behind the bus at its own address only, the cartridge's addresses apart. -/
theorem peek_poke_other (s : State) {a b : Word} (v : Byte) (h : b ≠ a)
    (hc : (region a = .rom ∨ region a = .eram) → ¬(region b = .rom ∨ region b = .eram)) :
    peek (poke s a v) b = peek s b := by
  have hr := Memory.read_write_other s.mem (a := a) (b := b) v h
  have hcell : region b ≠ .io → (poke s a v).mem.read b = s.mem.read b := by
    intro _; rw [poke_mem]; split
    · exact hr
    · rfl
  have hcart : region b = .rom ∨ region b = .eram → (poke s a v).cart = s.cart := by
    intro hb; rw [poke_cart, if_neg (fun ha => hc ha hb)]
  have hio : region b = .io → ioRead (poke s a v) b = ioRead s b := by
    intro _
    unfold poke
    cases region a with
    | io => exact ioRead_ioWrite_other s v h
    | _ => rfl
  have hie : region b = .ie → (poke s a v).ie = s.ie := by
    intro hb
    have hne : region a ≠ .ie := fun ha => h (((region_ie b).1 hb).trans ((region_ie a).1 ha).symm)
    rw [poke_ie, if_neg hne]
  unfold peek
  cases hb : region b with
  | rom => rw [hcart (.inl hb)]
  | eram => rw [hcart (.inr hb)]
  | io => exact hio hb
  | ie => exact hie hb
  | unmapped => rfl
  | _ => exact hcell (by rw [hb]; decide)

theorem peek_busWrite_other (s : State) {a b : Word} (v : Byte) (src : Source) (h : b ≠ a)
    (hc : (region a = .rom ∨ region a = .eram) → ¬(region b = .rom ∨ region b = .eram)) :
    peek (busWrite s a v src) b = peek s b := by
  unfold busWrite; split
  · rfl
  · exact peek_poke_other s v h hc

/-- A byte stored in RAM is the byte behind the bus there. -/
theorem peek_poke_same (s : State) (a : Word) (v : Byte) (h : isRam (region a) = true) : peek (poke s a v) a = v := by
  unfold poke
  cases ha : region a <;> rw [ha] at h <;>
    first
    | exact absurd h (by decide)
    | (unfold peek; rw [ha]; exact Memory.read_write_same s.mem a v)

/-! ### The DMA tick -/

/-- A DMA tick keeps the canonical form. -/
theorem dmaTick_form {s : State} (h : MemoryForm s) : MemoryForm (dmaTick s) := by
  have hc : ∀ i, MemoryForm (dmaCopy s i) := fun i => busWrite_form _ _ _ h
  unfold dmaTick
  split
  · split
    · exact h
    · exact ⟨h.memWf, h.memRam, h.cartWf⟩
  · dsimp only
    split
    · exact ⟨(hc _).memWf, (hc _).memRam, (hc _).cartWf⟩
    · exact ⟨(hc _).memWf, (hc _).memRam, (hc _).cartWf⟩

/-- After a DMA tick the lock is set exactly while a transfer runs, if it was before. -/
theorem dmaTick_lock {s : State} (h : s.locks.dma = decide (s.dma.step ≠ 0)) :
    (dmaTick s).locks.dma = decide ((dmaTick s).dma.step ≠ 0) := by
  unfold dmaTick
  split
  · split
    · exact h
    · rfl
  · dsimp only
    rename_i hs
    have hl : (dmaCopy s (s.dma.step.val - 1)).locks = s.locks := (busWrite_frame ..).locks
    split
    · rfl
    · rename_i hv
      show (dmaCopy s (s.dma.step.val - 1)).locks.dma = decide (s.dma.step + 1 ≠ 0)
      rw [hl, h]
      have : s.dma.step + 1 ≠ 0 := by
        intro e
        have := congrArg Fin.val e
        have hlt := s.dma.step.isLt
        simp [Fin.val_add] at this
        omega
      simp [hs, this]

/-- An idle controller with no trigger does nothing. -/
theorem dmaTick_idle {s : State} (hs : s.dma.step = 0) (ht : s.dma.trigger = 0) : dmaTick s = s := by
  unfold dmaTick; rw [if_pos hs, if_pos ht]

/-- A DMA tick leaves what the host gave at launch (70_reset_and_hazards.md R396). -/
theorem dmaTick_illegalFault (s : State) : (dmaTick s).illegalFault = s.illegalFault := by
  have hc : ∀ i, (dmaCopy s i).illegalFault = s.illegalFault := fun i => (busWrite_frame ..).illegalFault
  unfold dmaTick
  split
  · split <;> rfl
  · dsimp only
    split <;> exact hc _

/-! ### The environment's move -/

/-- What an environment action leaves alone (60_exceptions.md R350). -/
structure EnvFrame (s t : State) : Prop where
  timer : t.timer = s.timer
  ie : t.ie = s.ie
  dma : t.dma = s.dma
  cart : t.cart = s.cart
  dmaLock : t.locks.dma = s.locks.dma
  sel : t.sel = s.sel
  illegalFault : t.illegalFault = s.illegalFault

theorem EnvFrame.refl (s : State) : EnvFrame s s := ⟨rfl, rfl, rfl, rfl, rfl, rfl, rfl⟩

theorem EnvFrame.trans {s t u : State} (h : EnvFrame s t) (k : EnvFrame t u) : EnvFrame s u :=
  ⟨k.timer.trans h.timer, k.ie.trans h.ie, k.dma.trans h.dma, k.cart.trans h.cart, k.dmaLock.trans h.dmaLock,
   k.sel.trans h.sel, k.illegalFault.trans h.illegalFault⟩

/-- A PPU write is dropped or writes one cell of VRAM or OAM. -/
theorem envApply_ppuWrite (s : State) (a : Word) (v : Byte) :
    envApply s (.ppuWrite a v) = s ∨
      ((region a = .vram ∨ region a = .oam) ∧ envApply s (.ppuWrite a v) = { s with mem := s.mem.write a v }) := by
  simp only [envApply]
  cases ha : region a <;> first | exact .inl rfl | skip
  all_goals
    simp only [busWrite]
    split
    · exact .inl rfl
    · exact .inr ⟨by simp, by unfold poke; rw [ha]⟩

theorem envApply_frame (s : State) (x : EnvAction) : EnvFrame s (envApply s x) := by
  cases x with
  | ppuWrite a v =>
    rcases envApply_ppuWrite s a v with h | ⟨-, h⟩ <;> rw [h]
    · exact .refl s
    · exact ⟨rfl, rfl, rfl, rfl, rfl, rfl, rfl⟩
  | _ => exact ⟨rfl, rfl, rfl, rfl, rfl, rfl, rfl⟩

theorem envApply_form {s : State} (x : EnvAction) (h : MemoryForm s) : MemoryForm (envApply s x) := by
  cases x with
  | ppuWrite a v =>
    rcases envApply_ppuWrite s a v with e | ⟨ha, e⟩ <;> rw [e]
    · exact h
    · exact ⟨Memory.wf_write a v h.memWf,
        Memory.onlyRam_write v (by rcases ha with ha | ha <;> rw [ha] <;> rfl) h.memRam, h.cartWf⟩
  | _ => exact ⟨h.memWf, h.memRam, h.cartWf⟩

/-- An environment action writes no byte of WRAM or HRAM. -/
theorem envApply_peek (s : State) (x : EnvAction) {b : Word} (hb : region b = .wram ∨ region b = .hram) :
    peek (envApply s x) b = peek s b := by
  have key : ∀ t : State, t.mem.read b = s.mem.read b → peek t b = peek s b := by
    intro t h; unfold peek; rcases hb with hb | hb <;> rw [hb] <;> exact h
  cases x with
  | ppuWrite a v =>
    rcases envApply_ppuWrite s a v with e | ⟨ha, e⟩ <;> rw [e]
    refine key _ (Memory.read_write_other s.mem v ?_)
    rintro rfl
    rcases ha with ha | ha <;> rcases hb with hb | hb <;> rw [ha] at hb <;> exact absurd hb (by decide)
  | _ => exact key _ rfl

theorem envFold_frame (move : List EnvAction) (s : State) : EnvFrame s (move.foldl envApply s) := by
  induction move generalizing s with
  | nil => exact .refl s
  | cons x t ih => exact (envApply_frame s x).trans (ih _)

theorem envStep_frame (s : State) : EnvFrame s (envStep s) := by
  unfold envStep
  cases s.env with
  | nil => exact .refl s
  | cons move later =>
    have h := envFold_frame move { s with env := later }
    exact ⟨h.timer, h.ie, h.dma, h.cart, h.dmaLock, h.sel, h.illegalFault⟩

theorem envStep_form {s : State} (h : MemoryForm s) : MemoryForm (envStep s) := by
  have fold : ∀ (move : List EnvAction) (t : State), MemoryForm t → MemoryForm (move.foldl envApply t) := by
    intro move
    induction move with
    | nil => exact fun _ h => h
    | cons x m ih => exact fun t h => ih _ (envApply_form x h)
  unfold envStep
  cases s.env with
  | nil => exact h
  | cons move later => exact fold move _ ⟨h.memWf, h.memRam, h.cartWf⟩

theorem envStep_peek (s : State) {b : Word} (hb : region b = .wram ∨ region b = .hram) :
    peek (envStep s) b = peek s b := by
  have fold : ∀ (move : List EnvAction) (t : State), peek (move.foldl envApply t) b = peek t b := by
    intro move
    induction move with
    | nil => exact fun _ => rfl
    | cons x m ih => exact fun t => (ih _).trans (envApply_peek t x hb)
  have key : ∀ later, peek { s with env := later } b = peek s b := by
    intro later; unfold peek; rcases hb with hb | hb <;> rw [hb]
  unfold envStep
  cases s.env with
  | nil => rfl
  | cons move later => exact (fold move _).trans (key later)

/-- The end of an M-cycle keeps the canonical form. -/
theorem endCycle_form {s : State} (r : TickResult) (h : MemoryForm s) : MemoryForm (endCycle r s) := by
  have ht : MemoryForm (timerTick s) := ⟨h.memWf, h.memRam, h.cartWf⟩
  refine dmaTick_form (envStep_form ?_)
  cases r with
  | running => exact ht
  | finished => exact ht
  | halt =>
    show MemoryForm (if (timerTick s).queued then { timerTick s with cur := none } else timerTick s)
    split
    · exact ⟨ht.memWf, ht.memRam, ht.cartWf⟩
    · exact ht
  | stop =>
    show MemoryForm (if s.joypNibble = 0 then { s with cur := none } else s)
    split
    · exact ⟨h.memWf, h.memRam, h.cartWf⟩
    · exact h

/-- The end of an M-cycle leaves what the host gave at launch. -/
theorem endCycle_illegalFault (r : TickResult) (s : State) : (endCycle r s).illegalFault = s.illegalFault := by
  have h : (cpuTickEnd r s).illegalFault = s.illegalFault := by
    cases r with
    | running => rfl
    | finished => rfl
    | halt =>
      show (if (timerTick s).queued then { timerTick s with cur := none } else timerTick s).illegalFault = _
      split <;> rfl
    | stop =>
      show (if s.joypNibble = 0 then { s with cur := none } else s).illegalFault = _
      split <;> rfl
  exact (dmaTick_illegalFault _).trans ((envStep_frame _).illegalFault.trans h)

end Sys2Proof.Machine
end

