-- ==== Sys2Proof/Laws/Exec.lean ====
section
/-! SUPPORT. The dispatch by kind, the two bytes of a word, and the operand codes of the register file. -/

namespace Sys2Proof

theorem joinBytes_toNat (hi lo : Byte) : (joinBytes hi lo).toNat = hi.toNat * 256 + lo.toNat := by
  have h : (hi ++ lo).toNat = hi.toNat <<< 8 ||| lo.toNat := BitVec.toNat_append hi lo
  rw [joinBytes, h, ← Nat.shiftLeft_add_eq_or_of_lt lo.isLt, Nat.shiftLeft_eq]

@[simp] theorem loByte_joinBytes (hi lo : Byte) : loByte (joinBytes hi lo) = lo := by
  apply BitVec.eq_of_toNat_eq
  have := lo.isLt
  simp [loByte, joinBytes_toNat]; omega

@[simp] theorem hiByte_joinBytes (hi lo : Byte) : hiByte (joinBytes hi lo) = hi := by
  apply BitVec.eq_of_toNat_eq
  have := lo.isLt
  have := hi.isLt
  simp [hiByte, joinBytes_toNat, Nat.shiftRight_eq_div_pow]; omega

@[simp] theorem joinBytes_hiByte_loByte (w : Word) : joinBytes (hiByte w) (loByte w) = w := by
  apply BitVec.eq_of_toNat_eq
  have := w.isLt
  simp [hiByte, loByte, joinBytes_toNat, Nat.shiftRight_eq_div_pow]; omega

theorem loByte_eq_extract (w : Word) : loByte w = w.extractLsb' 0 8 := by
  apply BitVec.eq_of_toNat_eq
  simp [loByte]

theorem hiByte_eq_extract (w : Word) : hiByte w = w.extractLsb' 8 8 := by
  apply BitVec.eq_of_toNat_eq
  simp [hiByte]

namespace Machine

/-- The address 0xFF00 + n is the page byte 0xFF and n (43_loads.md R241 to R244). -/
theorem highPage_eq_append (n : Byte) : highPage n = (0xFF : Byte) ++ n := by
  revert n; decide

theorem setHl_hl (r : Regs) : r.setHl r.hl = r := by
  have h : hiByte r.hl = r.h := hiByte_joinBytes _ _
  have l : loByte r.hl = r.l := loByte_joinBytes _ _
  unfold Regs.setHl
  rw [h, l]

/-- Every arm of the dispatch is its kind's ticks, from the M-cycle that reads the instruction's last byte. -/
theorem exec_eq_performKind (i : Instr) (s : State) : exec i s = performKind i.kind s := by
  cases i <;> rfl

/-- An unassigned opcode runs as NOP, or faults in a machine launched with ILLEGAL_OPCODE_FAULT (45_system.md R306). -/
theorem performKind_illegal (op : Byte) (s : State) :
    performKind (.illegal op) s = if s.illegalFault then .fault (.illegalOpcode op) else perform 0 nopTicks s := rfl

/-- A kind that is no unassigned opcode: its object, run from the M-cycle that reads its last byte. -/
theorem performKind_eq {k : Kind} (h : ∀ op, k ≠ .illegal op) (s : State) :
    performKind k s = .next (runTicks maxCycles (kindTicks k) (immediateBytes k) .fresh s) := by
  cases k with
  | illegal op => exact absurd rfl (h op)
  | _ => rfl

/-! ### Reading and writing one register -/

@[simp] theorem get8_set8_same (r : Regs) (x : R8) (v : Byte) : (r.set8 x v).get8 x = v := by cases x <;> rfl
theorem get8_set8_other (r : Regs) {x y : R8} (v : Byte) (h : y ≠ x) : (r.set8 x v).get8 y = r.get8 y := by
  cases x <;> cases y <;> first | rfl | exact absurd rfl h
@[simp] theorem set8_f (r : Regs) (x : R8) (v : Byte) : (r.set8 x v).f = r.f := by cases x <;> rfl
@[simp] theorem set8_sp (r : Regs) (x : R8) (v : Byte) : (r.set8 x v).sp = r.sp := by cases x <;> rfl
@[simp] theorem set8_pc (r : Regs) (x : R8) (v : Byte) : (r.set8 x v).pc = r.pc := by cases x <;> rfl

@[simp] theorem bc_setBc (r : Regs) (v : Word) : (r.setBc v).bc = v := joinBytes_hiByte_loByte v
@[simp] theorem de_setDe (r : Regs) (v : Word) : (r.setDe v).de = v := joinBytes_hiByte_loByte v
@[simp] theorem hl_setHl (r : Regs) (v : Word) : (r.setHl v).hl = v := joinBytes_hiByte_loByte v
@[simp] theorem get16_set16_same (r : Regs) (p : R16) (v : Word) : (r.set16 p v).get16 p = v := by
  cases p <;> first | rfl | exact joinBytes_hiByte_loByte v

/-! ### The flag setters keep F's low nibble zero (10_state.md R22, R23) -/

theorem lowNibble_setZf (r : Regs) (b : Bool) (h : r.f &&& 0x0F = 0) : (r.setZf b).f &&& 0x0F = 0 := by
  unfold Regs.setZf
  dsimp only
  generalize r.f = f at h ⊢
  revert b f; decide
theorem lowNibble_setNf (r : Regs) (b : Bool) (h : r.f &&& 0x0F = 0) : (r.setNf b).f &&& 0x0F = 0 := by
  unfold Regs.setNf
  dsimp only
  generalize r.f = f at h ⊢
  revert b f; decide
theorem lowNibble_setHf (r : Regs) (b : Bool) (h : r.f &&& 0x0F = 0) : (r.setHf b).f &&& 0x0F = 0 := by
  unfold Regs.setHf
  dsimp only
  generalize r.f = f at h ⊢
  revert b f; decide
theorem lowNibble_setCf (r : Regs) (b : Bool) (h : r.f &&& 0x0F = 0) : (r.setCf b).f &&& 0x0F = 0 := by
  unfold Regs.setCf
  dsimp only
  generalize r.f = f at h ⊢
  revert b f; decide
theorem lowNibble_setFlags (r : Regs) (z n h c : Bool) (hf : r.f &&& 0x0F = 0) :
    (r.setFlags z n h c).f &&& 0x0F = 0 :=
  lowNibble_setCf _ c (lowNibble_setHf _ h (lowNibble_setNf _ n (lowNibble_setZf _ z hf)))

end Machine

end Sys2Proof
end

