-- ==== Sys2Proof/Tests/Slice0.lean ====
section
/-! SUPPORT. Tests: the well-formedness smoke, the decoding of a word of every row of the opcode table, one or two steps per
family with the results the spec's own vectors give (95_test_vectors.md, by their ids), and a witness for the hypotheses of
each obligation that has some. -/

namespace Sys2Proof.Tests

open Sys2Proof.Machine Sys2Proof.Claims

/-! ### Helpers -/

/-- The word reads as the instruction, with no byte left. -/
def reads (w : List Byte) (i : Instr) : Bool :=
  match decode w with
  | .ok (j, []) => j == i
  | _ => false

/-- Every word of the list reads as the instruction beside it. -/
def allRead (l : List (List Byte × Instr)) : Bool := l.all fun c => reads c.1 c.2

/-- The state after one step; reset where the step gives none. -/
def after (s : State) : State :=
  match step s with
  | .next t => t
  | _ => State.reset

/-- The start registers of 95_test_vectors.md. -/
def r0 : Regs := State.reset.regs

/-- The start state of 95_test_vectors.md with a code at 0x0100 and the registers given. -/
def start (code : List Byte) (r : Regs) : State := { placeInstr State.reset code with regs := r }

/-- The same with one byte of RAM. -/
def startMem (code : List Byte) (r : Regs) (a : Word) (v : Byte) : State :=
  { start code r with mem := Memory.empty.write a v }

/-- The same with the two stack bytes 0x03 and 0x01 of V-J14. -/
def startStack (code : List Byte) (f : Byte) : State :=
  { start code { r0 with sp := 0xFFFC, f := f } with mem := (Memory.empty.write 0xFFFC 0x03).write 0xFFFD 0x01 }

/-! ### Well-formedness: ill-formed kinds are refused, the kinds of instructions are not -/

theorem test_illegal_kind_of_an_assigned_opcode_refused : (Kind.illegal 0x00).wellFormed = false := by decide
theorem test_illegal_kind_of_an_unassigned_opcode_accepted : (Kind.illegal 0xFD).wellFormed = true := by decide
theorem test_swap_is_no_accumulator_rotate : (Kind.rotA .swap).wellFormed = false := by decide
theorem test_srl_is_no_accumulator_rotate : (Kind.rotA .srl).wellFormed = false := by decide

/-! ### Decoding, every constructor -/

/-- Row 0x0 of the unprefixed map (30_encoding.md R113, R110). -/
theorem test_decode_op_row_0 : allRead
  [([0x00], .nop), ([0x01, 0x34, 0x12], .ldBcN16 0x1234), ([0x02], .ldMemBcA), ([0x03], .incBc), ([0x04], .incB),
   ([0x05], .decB), ([0x06, 0x9A], .ldBN8 0x9A), ([0x07], .rlca), ([0x08, 0x34, 0x12], .ldMemN16Sp 0x1234),
   ([0x09], .addHlBc), ([0x0A], .ldAMemBc), ([0x0B], .decBc), ([0x0C], .incC), ([0x0D], .decC),
   ([0x0E, 0x9A], .ldCN8 0x9A), ([0x0F], .rrca)] = true := by decide

/-- Row 0x1 of the unprefixed map (30_encoding.md R113, R110). -/
theorem test_decode_op_row_1 : allRead
  [([0x10], .stop), ([0x11, 0x34, 0x12], .ldDeN16 0x1234), ([0x12], .ldMemDeA), ([0x13], .incDe), ([0x14], .incD),
   ([0x15], .decD), ([0x16, 0x9A], .ldDN8 0x9A), ([0x17], .rla), ([0x18, 0x9A], .jrE8 0x9A), ([0x19], .addHlDe),
   ([0x1A], .ldAMemDe), ([0x1B], .decDe), ([0x1C], .incE), ([0x1D], .decE), ([0x1E, 0x9A], .ldEN8 0x9A),
   ([0x1F], .rra)] = true := by decide

/-- Row 0x2 of the unprefixed map (30_encoding.md R113, R110). -/
theorem test_decode_op_row_2 : allRead
  [([0x20, 0x9A], .jrNzE8 0x9A), ([0x21, 0x34, 0x12], .ldHlN16 0x1234), ([0x22], .ldMemHlIncA), ([0x23], .incHl),
   ([0x24], .incH), ([0x25], .decH), ([0x26, 0x9A], .ldHN8 0x9A), ([0x27], .daa), ([0x28, 0x9A], .jrZE8 0x9A),
   ([0x29], .addHlHl), ([0x2A], .ldAMemHlInc), ([0x2B], .decHl), ([0x2C], .incL), ([0x2D], .decL),
   ([0x2E, 0x9A], .ldLN8 0x9A), ([0x2F], .cpl)] = true := by decide

/-- Row 0x3 of the unprefixed map (30_encoding.md R113, R110). -/
theorem test_decode_op_row_3 : allRead
  [([0x30, 0x9A], .jrNcE8 0x9A), ([0x31, 0x34, 0x12], .ldSpN16 0x1234), ([0x32], .ldMemHlDecA), ([0x33], .incSp),
   ([0x34], .incMemHl), ([0x35], .decMemHl), ([0x36, 0x9A], .ldMemHlN8 0x9A), ([0x37], .scf),
   ([0x38, 0x9A], .jrCE8 0x9A), ([0x39], .addHlSp), ([0x3A], .ldAMemHlDec), ([0x3B], .decSp), ([0x3C], .incA),
   ([0x3D], .decA), ([0x3E, 0x9A], .ldAN8 0x9A), ([0x3F], .ccf)] = true := by decide

/-- Row 0x4 of the unprefixed map (30_encoding.md R113, R110). -/
theorem test_decode_op_row_4 : allRead
  [([0x40], .ldBB), ([0x41], .ldBC), ([0x42], .ldBD), ([0x43], .ldBE), ([0x44], .ldBH), ([0x45], .ldBL),
   ([0x46], .ldBMemHl), ([0x47], .ldBA), ([0x48], .ldCB), ([0x49], .ldCC), ([0x4A], .ldCD), ([0x4B], .ldCE),
   ([0x4C], .ldCH), ([0x4D], .ldCL), ([0x4E], .ldCMemHl), ([0x4F], .ldCA)] = true := by decide

/-- Row 0x5 of the unprefixed map (30_encoding.md R113, R110). -/
theorem test_decode_op_row_5 : allRead
  [([0x50], .ldDB), ([0x51], .ldDC), ([0x52], .ldDD), ([0x53], .ldDE), ([0x54], .ldDH), ([0x55], .ldDL),
   ([0x56], .ldDMemHl), ([0x57], .ldDA), ([0x58], .ldEB), ([0x59], .ldEC), ([0x5A], .ldED), ([0x5B], .ldEE),
   ([0x5C], .ldEH), ([0x5D], .ldEL), ([0x5E], .ldEMemHl), ([0x5F], .ldEA)] = true := by decide

/-- Row 0x6 of the unprefixed map (30_encoding.md R113, R110). -/
theorem test_decode_op_row_6 : allRead
  [([0x60], .ldHB), ([0x61], .ldHC), ([0x62], .ldHD), ([0x63], .ldHE), ([0x64], .ldHH), ([0x65], .ldHL),
   ([0x66], .ldHMemHl), ([0x67], .ldHA), ([0x68], .ldLB), ([0x69], .ldLC), ([0x6A], .ldLD), ([0x6B], .ldLE),
   ([0x6C], .ldLH), ([0x6D], .ldLL), ([0x6E], .ldLMemHl), ([0x6F], .ldLA)] = true := by decide

/-- Row 0x7 of the unprefixed map (30_encoding.md R113, R110). -/
theorem test_decode_op_row_7 : allRead
  [([0x70], .ldMemHlB), ([0x71], .ldMemHlC), ([0x72], .ldMemHlD), ([0x73], .ldMemHlE), ([0x74], .ldMemHlH),
   ([0x75], .ldMemHlL), ([0x76], .halt), ([0x77], .ldMemHlA), ([0x78], .ldAB), ([0x79], .ldAC), ([0x7A], .ldAD),
   ([0x7B], .ldAE), ([0x7C], .ldAH), ([0x7D], .ldAL), ([0x7E], .ldAMemHl), ([0x7F], .ldAA)] = true := by decide

/-- Row 0x8 of the unprefixed map (30_encoding.md R113, R110). -/
theorem test_decode_op_row_8 : allRead
  [([0x80], .addAB), ([0x81], .addAC), ([0x82], .addAD), ([0x83], .addAE), ([0x84], .addAH), ([0x85], .addAL),
   ([0x86], .addAMemHl), ([0x87], .addAA), ([0x88], .adcAB), ([0x89], .adcAC), ([0x8A], .adcAD), ([0x8B], .adcAE),
   ([0x8C], .adcAH), ([0x8D], .adcAL), ([0x8E], .adcAMemHl), ([0x8F], .adcAA)] = true := by decide

/-- Row 0x9 of the unprefixed map (30_encoding.md R113, R110). -/
theorem test_decode_op_row_9 : allRead
  [([0x90], .subAB), ([0x91], .subAC), ([0x92], .subAD), ([0x93], .subAE), ([0x94], .subAH), ([0x95], .subAL),
   ([0x96], .subAMemHl), ([0x97], .subAA), ([0x98], .sbcAB), ([0x99], .sbcAC), ([0x9A], .sbcAD), ([0x9B], .sbcAE),
   ([0x9C], .sbcAH), ([0x9D], .sbcAL), ([0x9E], .sbcAMemHl), ([0x9F], .sbcAA)] = true := by decide

/-- Row 0xA of the unprefixed map (30_encoding.md R113, R110). -/
theorem test_decode_op_row_A : allRead
  [([0xA0], .andAB), ([0xA1], .andAC), ([0xA2], .andAD), ([0xA3], .andAE), ([0xA4], .andAH), ([0xA5], .andAL),
   ([0xA6], .andAMemHl), ([0xA7], .andAA), ([0xA8], .xorAB), ([0xA9], .xorAC), ([0xAA], .xorAD), ([0xAB], .xorAE),
   ([0xAC], .xorAH), ([0xAD], .xorAL), ([0xAE], .xorAMemHl), ([0xAF], .xorAA)] = true := by decide

/-- Row 0xB of the unprefixed map (30_encoding.md R113, R110). -/
theorem test_decode_op_row_B : allRead
  [([0xB0], .orAB), ([0xB1], .orAC), ([0xB2], .orAD), ([0xB3], .orAE), ([0xB4], .orAH), ([0xB5], .orAL),
   ([0xB6], .orAMemHl), ([0xB7], .orAA), ([0xB8], .cpAB), ([0xB9], .cpAC), ([0xBA], .cpAD), ([0xBB], .cpAE),
   ([0xBC], .cpAH), ([0xBD], .cpAL), ([0xBE], .cpAMemHl), ([0xBF], .cpAA)] = true := by decide

/-- Row 0xC of the unprefixed map (30_encoding.md R113, R110). -/
theorem test_decode_op_row_C : allRead
  [([0xC0], .retNz), ([0xC1], .popBc), ([0xC2, 0x34, 0x12], .jpNzN16 0x1234), ([0xC3, 0x34, 0x12], .jpN16 0x1234),
   ([0xC4, 0x34, 0x12], .callNzN16 0x1234), ([0xC5], .pushBc), ([0xC6, 0x9A], .addAN8 0x9A), ([0xC7], .rst00),
   ([0xC8], .retZ), ([0xC9], .ret), ([0xCA, 0x34, 0x12], .jpZN16 0x1234), ([0xCB], .prefixCb),
   ([0xCC, 0x34, 0x12], .callZN16 0x1234), ([0xCD, 0x34, 0x12], .callN16 0x1234), ([0xCE, 0x9A], .adcAN8 0x9A),
   ([0xCF], .rst08)] = true := by decide

/-- Row 0xD of the unprefixed map (30_encoding.md R113, R110). -/
theorem test_decode_op_row_D : allRead
  [([0xD0], .retNc), ([0xD1], .popDe), ([0xD2, 0x34, 0x12], .jpNcN16 0x1234), ([0xD3], .illegalD3),
   ([0xD4, 0x34, 0x12], .callNcN16 0x1234), ([0xD5], .pushDe), ([0xD6, 0x9A], .subAN8 0x9A), ([0xD7], .rst10),
   ([0xD8], .retC), ([0xD9], .reti), ([0xDA, 0x34, 0x12], .jpCN16 0x1234), ([0xDB], .illegalDB),
   ([0xDC, 0x34, 0x12], .callCN16 0x1234), ([0xDD], .illegalDD), ([0xDE, 0x9A], .sbcAN8 0x9A), ([0xDF], .rst18)] = true := by decide

/-- Row 0xE of the unprefixed map (30_encoding.md R113, R110). -/
theorem test_decode_op_row_E : allRead
  [([0xE0, 0x9A], .ldhMemN8A 0x9A), ([0xE1], .popHl), ([0xE2], .ldMemCA), ([0xE3], .illegalE3), ([0xE4], .illegalE4),
   ([0xE5], .pushHl), ([0xE6, 0x9A], .andAN8 0x9A), ([0xE7], .rst20), ([0xE8, 0x9A], .addSpE8 0x9A), ([0xE9], .jpHl),
   ([0xEA, 0x34, 0x12], .ldMemN16A 0x1234), ([0xEB], .illegalEB), ([0xEC], .illegalEC), ([0xED], .illegalED),
   ([0xEE, 0x9A], .xorAN8 0x9A), ([0xEF], .rst28)] = true := by decide

/-- Row 0xF of the unprefixed map (30_encoding.md R113, R110). -/
theorem test_decode_op_row_F : allRead
  [([0xF0, 0x9A], .ldhAMemN8 0x9A), ([0xF1], .popAf), ([0xF2], .ldAMemC), ([0xF3], .di), ([0xF4], .illegalF4),
   ([0xF5], .pushAf), ([0xF6, 0x9A], .orAN8 0x9A), ([0xF7], .rst30), ([0xF8, 0x9A], .ldHlSpE8 0x9A),
   ([0xF9], .ldSpHl), ([0xFA, 0x34, 0x12], .ldAMemN16 0x1234), ([0xFB], .ei), ([0xFC], .illegalFC),
   ([0xFD], .illegalFD), ([0xFE, 0x9A], .cpAN8 0x9A), ([0xFF], .rst38)] = true := by decide

/-- Row 0x0 of the CB map (30_encoding.md R114). -/
theorem test_decode_cb_row_0 : allRead
  [([0xCB, 0x00], .rlcB), ([0xCB, 0x01], .rlcC), ([0xCB, 0x02], .rlcD), ([0xCB, 0x03], .rlcE), ([0xCB, 0x04], .rlcH),
   ([0xCB, 0x05], .rlcL), ([0xCB, 0x06], .rlcMemHl), ([0xCB, 0x07], .rlcA), ([0xCB, 0x08], .rrcB),
   ([0xCB, 0x09], .rrcC), ([0xCB, 0x0A], .rrcD), ([0xCB, 0x0B], .rrcE), ([0xCB, 0x0C], .rrcH), ([0xCB, 0x0D], .rrcL),
   ([0xCB, 0x0E], .rrcMemHl), ([0xCB, 0x0F], .rrcA)] = true := by decide

/-- Row 0x1 of the CB map (30_encoding.md R114). -/
theorem test_decode_cb_row_1 : allRead
  [([0xCB, 0x10], .rlB), ([0xCB, 0x11], .rlC), ([0xCB, 0x12], .rlD), ([0xCB, 0x13], .rlE), ([0xCB, 0x14], .rlH),
   ([0xCB, 0x15], .rlL), ([0xCB, 0x16], .rlMemHl), ([0xCB, 0x17], .rlA), ([0xCB, 0x18], .rrB), ([0xCB, 0x19], .rrC),
   ([0xCB, 0x1A], .rrD), ([0xCB, 0x1B], .rrE), ([0xCB, 0x1C], .rrH), ([0xCB, 0x1D], .rrL), ([0xCB, 0x1E], .rrMemHl),
   ([0xCB, 0x1F], .rrA)] = true := by decide

/-- Row 0x2 of the CB map (30_encoding.md R114). -/
theorem test_decode_cb_row_2 : allRead
  [([0xCB, 0x20], .slaB), ([0xCB, 0x21], .slaC), ([0xCB, 0x22], .slaD), ([0xCB, 0x23], .slaE), ([0xCB, 0x24], .slaH),
   ([0xCB, 0x25], .slaL), ([0xCB, 0x26], .slaMemHl), ([0xCB, 0x27], .slaA), ([0xCB, 0x28], .sraB),
   ([0xCB, 0x29], .sraC), ([0xCB, 0x2A], .sraD), ([0xCB, 0x2B], .sraE), ([0xCB, 0x2C], .sraH), ([0xCB, 0x2D], .sraL),
   ([0xCB, 0x2E], .sraMemHl), ([0xCB, 0x2F], .sraA)] = true := by decide

/-- Row 0x3 of the CB map (30_encoding.md R114). -/
theorem test_decode_cb_row_3 : allRead
  [([0xCB, 0x30], .swapB), ([0xCB, 0x31], .swapC), ([0xCB, 0x32], .swapD), ([0xCB, 0x33], .swapE),
   ([0xCB, 0x34], .swapH), ([0xCB, 0x35], .swapL), ([0xCB, 0x36], .swapMemHl), ([0xCB, 0x37], .swapA),
   ([0xCB, 0x38], .srlB), ([0xCB, 0x39], .srlC), ([0xCB, 0x3A], .srlD), ([0xCB, 0x3B], .srlE), ([0xCB, 0x3C], .srlH),
   ([0xCB, 0x3D], .srlL), ([0xCB, 0x3E], .srlMemHl), ([0xCB, 0x3F], .srlA)] = true := by decide

/-- Row 0x4 of the CB map (30_encoding.md R114). -/
theorem test_decode_cb_row_4 : allRead
  [([0xCB, 0x40], .bit0B), ([0xCB, 0x41], .bit0C), ([0xCB, 0x42], .bit0D), ([0xCB, 0x43], .bit0E),
   ([0xCB, 0x44], .bit0H), ([0xCB, 0x45], .bit0L), ([0xCB, 0x46], .bit0MemHl), ([0xCB, 0x47], .bit0A),
   ([0xCB, 0x48], .bit1B), ([0xCB, 0x49], .bit1C), ([0xCB, 0x4A], .bit1D), ([0xCB, 0x4B], .bit1E),
   ([0xCB, 0x4C], .bit1H), ([0xCB, 0x4D], .bit1L), ([0xCB, 0x4E], .bit1MemHl), ([0xCB, 0x4F], .bit1A)] = true := by decide

/-- Row 0x5 of the CB map (30_encoding.md R114). -/
theorem test_decode_cb_row_5 : allRead
  [([0xCB, 0x50], .bit2B), ([0xCB, 0x51], .bit2C), ([0xCB, 0x52], .bit2D), ([0xCB, 0x53], .bit2E),
   ([0xCB, 0x54], .bit2H), ([0xCB, 0x55], .bit2L), ([0xCB, 0x56], .bit2MemHl), ([0xCB, 0x57], .bit2A),
   ([0xCB, 0x58], .bit3B), ([0xCB, 0x59], .bit3C), ([0xCB, 0x5A], .bit3D), ([0xCB, 0x5B], .bit3E),
   ([0xCB, 0x5C], .bit3H), ([0xCB, 0x5D], .bit3L), ([0xCB, 0x5E], .bit3MemHl), ([0xCB, 0x5F], .bit3A)] = true := by decide

/-- Row 0x6 of the CB map (30_encoding.md R114). -/
theorem test_decode_cb_row_6 : allRead
  [([0xCB, 0x60], .bit4B), ([0xCB, 0x61], .bit4C), ([0xCB, 0x62], .bit4D), ([0xCB, 0x63], .bit4E),
   ([0xCB, 0x64], .bit4H), ([0xCB, 0x65], .bit4L), ([0xCB, 0x66], .bit4MemHl), ([0xCB, 0x67], .bit4A),
   ([0xCB, 0x68], .bit5B), ([0xCB, 0x69], .bit5C), ([0xCB, 0x6A], .bit5D), ([0xCB, 0x6B], .bit5E),
   ([0xCB, 0x6C], .bit5H), ([0xCB, 0x6D], .bit5L), ([0xCB, 0x6E], .bit5MemHl), ([0xCB, 0x6F], .bit5A)] = true := by decide

/-- Row 0x7 of the CB map (30_encoding.md R114). -/
theorem test_decode_cb_row_7 : allRead
  [([0xCB, 0x70], .bit6B), ([0xCB, 0x71], .bit6C), ([0xCB, 0x72], .bit6D), ([0xCB, 0x73], .bit6E),
   ([0xCB, 0x74], .bit6H), ([0xCB, 0x75], .bit6L), ([0xCB, 0x76], .bit6MemHl), ([0xCB, 0x77], .bit6A),
   ([0xCB, 0x78], .bit7B), ([0xCB, 0x79], .bit7C), ([0xCB, 0x7A], .bit7D), ([0xCB, 0x7B], .bit7E),
   ([0xCB, 0x7C], .bit7H), ([0xCB, 0x7D], .bit7L), ([0xCB, 0x7E], .bit7MemHl), ([0xCB, 0x7F], .bit7A)] = true := by decide

/-- Row 0x8 of the CB map (30_encoding.md R114). -/
theorem test_decode_cb_row_8 : allRead
  [([0xCB, 0x80], .res0B), ([0xCB, 0x81], .res0C), ([0xCB, 0x82], .res0D), ([0xCB, 0x83], .res0E),
   ([0xCB, 0x84], .res0H), ([0xCB, 0x85], .res0L), ([0xCB, 0x86], .res0MemHl), ([0xCB, 0x87], .res0A),
   ([0xCB, 0x88], .res1B), ([0xCB, 0x89], .res1C), ([0xCB, 0x8A], .res1D), ([0xCB, 0x8B], .res1E),
   ([0xCB, 0x8C], .res1H), ([0xCB, 0x8D], .res1L), ([0xCB, 0x8E], .res1MemHl), ([0xCB, 0x8F], .res1A)] = true := by decide

/-- Row 0x9 of the CB map (30_encoding.md R114). -/
theorem test_decode_cb_row_9 : allRead
  [([0xCB, 0x90], .res2B), ([0xCB, 0x91], .res2C), ([0xCB, 0x92], .res2D), ([0xCB, 0x93], .res2E),
   ([0xCB, 0x94], .res2H), ([0xCB, 0x95], .res2L), ([0xCB, 0x96], .res2MemHl), ([0xCB, 0x97], .res2A),
   ([0xCB, 0x98], .res3B), ([0xCB, 0x99], .res3C), ([0xCB, 0x9A], .res3D), ([0xCB, 0x9B], .res3E),
   ([0xCB, 0x9C], .res3H), ([0xCB, 0x9D], .res3L), ([0xCB, 0x9E], .res3MemHl), ([0xCB, 0x9F], .res3A)] = true := by decide

/-- Row 0xA of the CB map (30_encoding.md R114). -/
theorem test_decode_cb_row_A : allRead
  [([0xCB, 0xA0], .res4B), ([0xCB, 0xA1], .res4C), ([0xCB, 0xA2], .res4D), ([0xCB, 0xA3], .res4E),
   ([0xCB, 0xA4], .res4H), ([0xCB, 0xA5], .res4L), ([0xCB, 0xA6], .res4MemHl), ([0xCB, 0xA7], .res4A),
   ([0xCB, 0xA8], .res5B), ([0xCB, 0xA9], .res5C), ([0xCB, 0xAA], .res5D), ([0xCB, 0xAB], .res5E),
   ([0xCB, 0xAC], .res5H), ([0xCB, 0xAD], .res5L), ([0xCB, 0xAE], .res5MemHl), ([0xCB, 0xAF], .res5A)] = true := by decide

/-- Row 0xB of the CB map (30_encoding.md R114). -/
theorem test_decode_cb_row_B : allRead
  [([0xCB, 0xB0], .res6B), ([0xCB, 0xB1], .res6C), ([0xCB, 0xB2], .res6D), ([0xCB, 0xB3], .res6E),
   ([0xCB, 0xB4], .res6H), ([0xCB, 0xB5], .res6L), ([0xCB, 0xB6], .res6MemHl), ([0xCB, 0xB7], .res6A),
   ([0xCB, 0xB8], .res7B), ([0xCB, 0xB9], .res7C), ([0xCB, 0xBA], .res7D), ([0xCB, 0xBB], .res7E),
   ([0xCB, 0xBC], .res7H), ([0xCB, 0xBD], .res7L), ([0xCB, 0xBE], .res7MemHl), ([0xCB, 0xBF], .res7A)] = true := by decide

/-- Row 0xC of the CB map (30_encoding.md R114). -/
theorem test_decode_cb_row_C : allRead
  [([0xCB, 0xC0], .set0B), ([0xCB, 0xC1], .set0C), ([0xCB, 0xC2], .set0D), ([0xCB, 0xC3], .set0E),
   ([0xCB, 0xC4], .set0H), ([0xCB, 0xC5], .set0L), ([0xCB, 0xC6], .set0MemHl), ([0xCB, 0xC7], .set0A),
   ([0xCB, 0xC8], .set1B), ([0xCB, 0xC9], .set1C), ([0xCB, 0xCA], .set1D), ([0xCB, 0xCB], .set1E),
   ([0xCB, 0xCC], .set1H), ([0xCB, 0xCD], .set1L), ([0xCB, 0xCE], .set1MemHl), ([0xCB, 0xCF], .set1A)] = true := by decide

/-- Row 0xD of the CB map (30_encoding.md R114). -/
theorem test_decode_cb_row_D : allRead
  [([0xCB, 0xD0], .set2B), ([0xCB, 0xD1], .set2C), ([0xCB, 0xD2], .set2D), ([0xCB, 0xD3], .set2E),
   ([0xCB, 0xD4], .set2H), ([0xCB, 0xD5], .set2L), ([0xCB, 0xD6], .set2MemHl), ([0xCB, 0xD7], .set2A),
   ([0xCB, 0xD8], .set3B), ([0xCB, 0xD9], .set3C), ([0xCB, 0xDA], .set3D), ([0xCB, 0xDB], .set3E),
   ([0xCB, 0xDC], .set3H), ([0xCB, 0xDD], .set3L), ([0xCB, 0xDE], .set3MemHl), ([0xCB, 0xDF], .set3A)] = true := by decide

/-- Row 0xE of the CB map (30_encoding.md R114). -/
theorem test_decode_cb_row_E : allRead
  [([0xCB, 0xE0], .set4B), ([0xCB, 0xE1], .set4C), ([0xCB, 0xE2], .set4D), ([0xCB, 0xE3], .set4E),
   ([0xCB, 0xE4], .set4H), ([0xCB, 0xE5], .set4L), ([0xCB, 0xE6], .set4MemHl), ([0xCB, 0xE7], .set4A),
   ([0xCB, 0xE8], .set5B), ([0xCB, 0xE9], .set5C), ([0xCB, 0xEA], .set5D), ([0xCB, 0xEB], .set5E),
   ([0xCB, 0xEC], .set5H), ([0xCB, 0xED], .set5L), ([0xCB, 0xEE], .set5MemHl), ([0xCB, 0xEF], .set5A)] = true := by decide

/-- Row 0xF of the CB map (30_encoding.md R114). -/
theorem test_decode_cb_row_F : allRead
  [([0xCB, 0xF0], .set6B), ([0xCB, 0xF1], .set6C), ([0xCB, 0xF2], .set6D), ([0xCB, 0xF3], .set6E),
   ([0xCB, 0xF4], .set6H), ([0xCB, 0xF5], .set6L), ([0xCB, 0xF6], .set6MemHl), ([0xCB, 0xF7], .set6A),
   ([0xCB, 0xF8], .set7B), ([0xCB, 0xF9], .set7C), ([0xCB, 0xFA], .set7D), ([0xCB, 0xFB], .set7E),
   ([0xCB, 0xFC], .set7H), ([0xCB, 0xFD], .set7L), ([0xCB, 0xFE], .set7MemHl), ([0xCB, 0xFF], .set7A)] = true := by decide

/-! ### Decoding, one word a family, bit by bit from the fields (30_encoding.md R101, R102) -/

/-- 01 ddd sss, d = A, s = B. -/
theorem test_bits_ld_r_r : reads [0b01111000] .ldAB = true := by decide
/-- 00 pp0 001, p = HL, low byte first. -/
theorem test_bits_ld_rr_n16 : reads [0b00100001, 0b00110100, 0b00010010] (.ldHlN16 0x1234) = true := by decide
/-- 10 ooo sss, o = CP, s = E. -/
theorem test_bits_alu : reads [0b10111011] .cpAE = true := by decide
/-- 00 rrr 100, r = H. -/
theorem test_bits_inc_r : reads [0b00100100] .incH = true := by decide
/-- CB 01 bbb zzz, b = 6, z = (HL). -/
theorem test_bits_bit : reads [0b11001011, 0b01110110] .bit6MemHl = true := by decide
/-- CB 00 yyy zzz, y = SWAP, z = C. -/
theorem test_bits_swap : reads [0b11001011, 0b00110001] .swapC = true := by decide
/-- 11 pp0 101, p = AF. -/
theorem test_bits_push : reads [0b11110101] .pushAf = true := by decide
/-- 001 cc 000, cc = NC, e = -2. -/
theorem test_bits_jr_cc : reads [0b00110000, 0b11111110] (.jrNcE8 0xFE) = true := by decide
/-- 110 cc 100, cc = Z. -/
theorem test_bits_call_cc : reads [0b11001100, 0b00000000, 0b00000010] (.callZN16 0x0200) = true := by decide
/-- 11 ttt 111, t = 5. -/
theorem test_bits_rst : reads [0b11101111] .rst28 = true := by decide
/-- 01 110 110 is HALT, not a load. -/
theorem test_bits_halt : reads [0b01110110] .halt = true := by decide

theorem test_decode_needs_its_immediate : decode [0x06] = .error .missingImmediate := by rfl
theorem test_decode_leaves_the_rest : decode [0x10, 0x00] = .ok (.stop, [0x00]) := by rfl
theorem test_table_word_of_a_cb_row : decodeTableWord 16 0xCB37 = some .swapA := by decide
theorem test_table_word_of_a_long_row : decodeTableWord 8 0xC3 = some (.jpN16 0) := by decide
theorem test_step_runs_the_table_word : (after (State.reset.withFetchWord 8 0x3C)).regs.a = 2 := by decide

/-! ### Arithmetic and logic (95 §2.1 to §2.3) -/

/-- V-A1. -/
theorem test_add_wraps : (after (start [0x80] { r0 with a := 0x3A, b := 0xC6, f := 0 })).regs =
    { r0 with a := 0, b := 0xC6, f := 0xB0, pc := 0x0101 } := by decide
/-- V-A3. -/
theorem test_add_hl_carry_without_half : (after (startMem [0x86] { r0 with a := 0xF0, h := 0xC0, l := 0, f := 0 } 0xC000 0x12)).regs =
    { r0 with a := 2, h := 0xC0, l := 0, f := 0x10, pc := 0x0101 } := by decide
/-- V-A5. -/
theorem test_adc_carry_in_makes_the_carry : (after (start [0xCE, 0x00] { r0 with a := 0xFF, f := 0x10 })).regs =
    { r0 with a := 0, f := 0xB0, pc := 0x0102 } := by decide
/-- V-A8. -/
theorem test_sub_half_borrow : (after (start [0xD6, 0x0F] { r0 with a := 0x3E, f := 0 })).regs =
    { r0 with a := 0x2F, f := 0x60, pc := 0x0102 } := by decide
/-- V-A10. -/
theorem test_sbc_borrow_through_carry : (after (start [0xDE, 0xFF] { r0 with a := 0, f := 0x10 })).regs =
    { r0 with a := 0, f := 0xF0, pc := 0x0102 } := by decide
/-- V-A12. -/
theorem test_and_sets_half : (after (start [0xE6, 0x3F] { r0 with a := 0x5A, f := 0x50 })).regs =
    { r0 with a := 0x1A, f := 0x20, pc := 0x0102 } := by decide
/-- V-A14. -/
theorem test_xor_self : (after (start [0xAF] { r0 with a := 0x77, f := 0x70 })).regs =
    { r0 with a := 0, f := 0x80, pc := 0x0101 } := by decide
/-- V-A16. -/
theorem test_or : (after (start [0xF6, 0x0F] { r0 with a := 0x5A, f := 0 })).regs =
    { r0 with a := 0x5F, f := 0, pc := 0x0102 } := by decide
/-- V-A19. -/
theorem test_cp_leaves_a : (after (start [0xFE, 0x40] { r0 with a := 0x3C, f := 0 })).regs =
    { r0 with a := 0x3C, f := 0x50, pc := 0x0102 } := by decide
/-- W5. -/
theorem test_inc_keeps_the_carry : (after (start [0x04] { r0 with b := 0xFF, f := 0x10 })).regs =
    { r0 with b := 0, f := 0xB0, pc := 0x0101 } := by decide
/-- V-A25. -/
theorem test_dec_hl : (peek (after (startMem [0x35] { r0 with h := 0xC0, l := 0, f := 0 } 0xC001 1)) 0xC000,
    (after (startMem [0x35] { r0 with h := 0xC0, l := 0, f := 0 } 0xC001 1)).regs.f) = (0xFF, 0x60) := by decide
/-- V-B1. -/
theorem test_inc_bc_wraps : (after (start [0x03] { r0 with b := 0xFF, c := 0xFF, f := 0xF0 })).regs =
    { r0 with b := 0, c := 0, f := 0xF0, pc := 0x0101 } := by decide
/-- V-B4. -/
theorem test_add_hl_keeps_z : (after (start [0x09] { r0 with h := 0x8A, l := 0x23, b := 0x06, c := 0x05, f := 0x80 })).regs =
    { r0 with h := 0x90, l := 0x28, b := 0x06, c := 0x05, f := 0xA0, pc := 0x0101 } := by decide
/-- V-B10. -/
theorem test_add_sp_minus_one : (after (start [0xE8, 0xFF] { r0 with sp := 1, f := 0 })).regs =
    { r0 with sp := 0, f := 0x30, pc := 0x0102 } := by decide
/-- V-D2. -/
theorem test_daa_after_add : (after (start [0x27] { r0 with a := 0x9A, f := 0 })).regs =
    { r0 with a := 0, f := 0x90, pc := 0x0101 } := by decide
/-- V-D6. -/
theorem test_daa_after_sub : (after (start [0x27] { r0 with a := 0xFF, f := 0x70 })).regs =
    { r0 with a := 0x99, f := 0x50, pc := 0x0101 } := by decide
/-- V-D7. -/
theorem test_cpl : (after (start [0x2F] { r0 with a := 0x35, f := 0 })).regs =
    { r0 with a := 0xCA, f := 0x60, pc := 0x0101 } := by decide
/-- V-D9. -/
theorem test_ccf : (after (start [0x3F] { r0 with f := 0xF0 })).regs = { r0 with f := 0x80, pc := 0x0101 } := by decide

/-! ### Rotates, shifts, bits (95 §2.4) -/

/-- V-R1. -/
theorem test_rlca_clears_z : (after (start [0x07] { r0 with a := 0x85, f := 0x80 })).regs =
    { r0 with a := 0x0B, f := 0x10, pc := 0x0101 } := by decide
/-- V-R5. -/
theorem test_rra : (after (start [0x1F] { r0 with a := 0x81, f := 0 })).regs =
    { r0 with a := 0x40, f := 0x10, pc := 0x0101 } := by decide
/-- V-R10. -/
theorem test_rr_takes_the_carry : (after (start [0xCB, 0x1B] { r0 with e := 1, f := 0x10 })).regs =
    { r0 with e := 0x80, f := 0x10, pc := 0x0102 } := by decide
/-- V-R12. -/
theorem test_sra_keeps_bit_7 : (after (start [0xCB, 0x2D] { r0 with l := 0x81, f := 0 })).regs =
    { r0 with l := 0xC0, f := 0x10, pc := 0x0102 } := by decide
/-- V-R13. -/
theorem test_swap : (after (start [0xCB, 0x37] { r0 with a := 0xF0, f := 0x10 })).regs =
    { r0 with a := 0x0F, f := 0, pc := 0x0102 } := by decide
/-- V-R16. -/
theorem test_srl_hl : (peek (after (startMem [0xCB, 0x3E] { r0 with h := 0xC0, l := 0, f := 0 } 0xC000 1)) 0xC000,
    (after (startMem [0xCB, 0x3E] { r0 with h := 0xC0, l := 0, f := 0 } 0xC000 1)).regs.f) = (0, 0x90) := by decide
/-- V-R17. -/
theorem test_bit_keeps_the_carry : (after (start [0xCB, 0x7C] { r0 with h := 0x7F, f := 0x10 })).regs =
    { r0 with h := 0x7F, f := 0xB0, pc := 0x0102 } := by decide
/-- V-R22. -/
theorem test_res_hl : peek (after (startMem [0xCB, 0xBE] { r0 with h := 0xC0, l := 0 } 0xC000 0xFF)) 0xC000 = 0x7F := by
  decide

/-! ### Loads and the stack (95 §2.5) -/

/-- V-L7: the source is the high byte of the address. -/
theorem test_ld_hl_h : peek (after (start [0x74] { r0 with h := 0xC0, l := 0x50 })) 0xC050 = 0xC0 := by decide
/-- V-L10. -/
theorem test_ld_a_hli : (after (startMem [0x2A] { r0 with h := 0xC0, l := 0xFF } 0xC0FF 0x21)).regs =
    { r0 with a := 0x21, h := 0xC1, l := 0, pc := 0x0101 } := by decide
/-- V-L12: HL wraps after the store to IE. -/
theorem test_ld_hli_a_wraps : (after (start [0x22] { r0 with a := 5, h := 0xFF, l := 0xFF })).ie = 5 := by decide
/-- V-L17: the fixed bits of IF. -/
theorem test_ld_a_c_reads_if : (after { start [0xF2] { r0 with c := 0x0F } with iflag := 5 }).regs.a = 0xE5 := by decide
/-- V-L20: no echo of WRAM. -/
theorem test_unmapped_reads_zero : (after (startMem [0xFA, 0x00, 0xE0] r0 0xC000 7)).regs =
    { r0 with a := 0, pc := 0x0103 } := by decide
/-- V-L23. -/
theorem test_ld_n16_sp : (peek (after (start [0x08, 0x00, 0xC1] { r0 with sp := 0xFFF8 })) 0xC100,
    peek (after (start [0x08, 0x00, 0xC1] { r0 with sp := 0xFFF8 })) 0xC101) = (0xF8, 0xFF) := by decide
/-- V-L26. -/
theorem test_ld_hl_sp_minus_one : (after (start [0xF8, 0xFF] { r0 with sp := 0, f := 0 })).regs =
    { r0 with h := 0xFF, l := 0xFF, sp := 0, f := 0, pc := 0x0102 } := by decide
/-- V-L27. -/
theorem test_push : (peek (after (start [0xC5] { r0 with b := 0x12, c := 0x34 })) 0xFFFD,
    peek (after (start [0xC5] { r0 with b := 0x12, c := 0x34 })) 0xFFFC) = (0x12, 0x34) := by decide
/-- V-L29. -/
theorem test_pop_af : (after { start [0xF1] { r0 with sp := 0xFFFC } with
    mem := (Memory.empty.write 0xFFFC 0xFF).write 0xFFFD 0x12 }).regs =
    { r0 with a := 0x12, f := 0xF0, pc := 0x0101 } := by decide

/-! ### Control flow (95 §2.6) -/

/-- V-J7. -/
theorem test_jr_back : (after (start [0x18, 0x80] r0)).regs.pc = 0x0082 := by decide
/-- V-J10. -/
theorem test_jr_nc_not_taken : (after (start [0x30, 0xF0] { r0 with f := 0x10 })).regs.pc = 0x0102 := by decide
/-- V-J11. -/
theorem test_call : (after (start [0xCD, 0x00, 0x02] r0)).regs = { r0 with pc := 0x0200, sp := 0xFFFC } := by decide
/-- V-J13. -/
theorem test_call_z_not_taken : (after (start [0xCC, 0x00, 0x02] { r0 with f := 0 })).regs =
    { r0 with f := 0, pc := 0x0103 } := by decide
/-- V-J15. -/
theorem test_ret_c : (after (startStack [0xD8] 0x10)).regs = { r0 with f := 0x10, pc := 0x0103 } := by decide
/-- V-J17. -/
theorem test_reti : (after (startStack [0xD9] 0)).view = { regs := { r0 with f := 0, pc := 0x0103 }, ime := true } := by decide
/-- V-J19. -/
theorem test_rst_pushes_into_rom_and_ie : (after (start [0xFF] { r0 with sp := 1 })).ie = 1 := by decide

/-! ### System, interrupts, timer, DMA, locks (95 §2.7 to §2.10) -/

/-- V-S4. -/
theorem test_unassigned_is_nop : (after (start [0xD3] r0)).regs = { r0 with pc := 0x0101 } := by decide
/-- V-S5. -/
theorem test_unassigned_faults_with_the_switch :
    step { start [0xD3] r0 with illegalFault := true } = .fault (.illegalOpcode 0xD3) := by rfl
/-- V-S6. -/
theorem test_halt_bug_goes_on : (after { start [0x76] r0 with ie := 1, iflag := 1 }).cur = none := by decide
/-- V-I1. -/
theorem test_dispatch : (after { start [0x00] { r0 with pc := 0x0150 } with ime := true, ie := 4, iflag := 4 }).view =
    { regs := { r0 with pc := 0x0050, sp := 0xFFFC }, ime := false } := by decide
/-- W8. -/
theorem test_vblank_before_joypad : popIrq (0x11 : BitVec 5) = some .vblank := by decide
/-- V-T3, tick 3: a DIV write is a falling edge. -/
theorem test_div_write_is_an_edge :
    ((Timer.tick { sysctr := 0, tima := 0x10, tma := 0, tac := 5, prevBit := true, ovfPending := false }).sysctr,
      (Timer.tick { sysctr := 0, tima := 0x10, tma := 0, tac := 5, prevBit := true, ovfPending := false }).tima) = (1, 0x11) := by
  decide
/-- V-M2: the DMA does not pass the VRAM lock. -/
theorem test_vram_lock_holds_the_dma :
    busRead { State.reset with locks := { vram := true, oam := true, dma := true } } 0x8000 .dma = 0xFF := by decide
/-- V-M2: the OAM lock lets the DMA through. -/
theorem test_oam_lock_lets_the_dma_store :
    peek (busWrite { State.reset with locks := { vram := true, oam := true, dma := true } } 0xFE00 7 .dma) 0xFE00 = 7 := by decide

/-! ### Witnesses: the hypotheses of every obligation that has some can be met -/

theorem witness_DecodeOfEncodeIsTheInstruction :
    (Instr.ldAB ≠ .prefixCb) ∧ decode (encode .prefixCb ++ []) = .ok (.prefixCb, []) := by
  exact ⟨by decide, by rfl⟩

theorem witness_EncodeOfDecodedIsTheBytesRead : decode [0xFA, 0x34, 0xC2] = .ok (.ldAMemN16 0xC234, []) := by rfl

theorem witness_FirstByteFixesTheLength : decode [0xCB, 0x00, 0x76] = .ok (.rlcB, [0x76]) := by rfl

/-- One clause each: a 1-byte, a CB, a 2-byte and a 3-byte instruction. -/
theorem witness_StepRunsTheDecodedInstruction :
    (let s := start [0x78] r0;
      s.cur = none ∧ dueIrq s = none ∧ cpuRead s s.regs.pc ≠ 0xCB ∧ reads [cpuRead s s.regs.pc] .ldAB = true) ∧
    (let s := start [0xCB, 0x7C] r0;
      s.cur = none ∧ dueIrq s = none ∧ cpuRead s s.regs.pc = 0xCB ∧
        reads [0xCB, cpuRead s (s.regs.pc + 1)] .bit7H = true) ∧
    (let s := start [0x3E, 0x42] r0;
      s.cur = none ∧ dueIrq s = none ∧ cpuRead s s.regs.pc ≠ 0xCB ∧
        reads [cpuRead s s.regs.pc, cpuRead (idle 1 s) (s.regs.pc + 1)] (.ldAN8 0x42) = true) ∧
    (let s := start [0xC3, 0x50, 0x01] r0;
      s.cur = none ∧ dueIrq s = none ∧
        reads [cpuRead s s.regs.pc, cpuRead (idle 1 s) (s.regs.pc + 1), cpuRead (idle 2 s) (s.regs.pc + 2)]
          (.jpN16 0x0150) = true) := by decide

/-- The lowest and the highest bit. -/
theorem witness_StepDispatchesTheQueuedInterrupt :
    (let s := { State.reset with ime := true, ie := 0xFF, iflag := 0x1F };
      s.cur = none ∧ s.ime = true ∧ s.pending.getLsbD (irqBit .vblank) = true ∧
        ∀ j, j < irqBit .vblank → s.pending.getLsbD j = false) ∧
    (let s := { State.reset with ime := true, ie := 0xFF, iflag := 0x10 };
      s.cur = none ∧ s.ime = true ∧ s.pending.getLsbD (irqBit .joypad) = true ∧
        ∀ j, j < irqBit .joypad → s.pending.getLsbD j = false) := by decide

/-- An empty slot, a HALT and a STOP in the slot. -/
theorem witness_StepIsTheSystemStepsToTheBoundary : atBoundary State.reset = true ∧
    atBoundary { State.reset with cur := some (.running .halt 1 .fresh) } = true ∧
    atBoundary { State.reset with cur := some (.running .stop 1 .fresh) } = true := by decide

theorem witness_StepKeepsTheInvariant :
    (startMem [0x34] { r0 with h := 0xC0, l := 0 } 0xC000 0x7F).Inv ∧
    (∃ t, step (startMem [0x34] { r0 with h := 0xC0, l := 0 } 0xC000 0x7F) = .next t) ∧
    (∃ t, systemStep (startMem [0x34] { r0 with h := 0xC0, l := 0 } 0xC000 0x7F) = .next t) :=
  ⟨⟨by decide, by decide, by decide, by decide, by decide, by decide⟩, ⟨_, rfl⟩, ⟨_, rfl⟩⟩

/-- The switch off, and on with an unassigned opcode at PC. -/
theorem witness_OnlyTheLaunchSwitchStopsAStep : State.reset.illegalFault = false ∧
    (let s := { start [0xFD] r0 with illegalFault := true };
      s.illegalFault = true ∧ s.cur = none ∧ dueIrq s = none ∧ cpuRead s s.regs.pc ∈ unassignedOpcodes) := by decide

theorem witness_PowerOnMeetsTheInvariant : Config.dmgPostBoot.legal = true ∧ (Memory.empty.write 0xC000 7).wf = true ∧
    (Memory.empty.write 0xC000 7).onlyRam = true ∧ (Cart.staticRom (Memory.empty.write 0x0100 0x3C)).wf = true := by decide

theorem witness_RegisterAndHlLoads : Instr.ldAB.kind = .ldRR .a .b ∧ Instr.ldHMemHl.kind = .ldRMemHl .h ∧
    Instr.ldMemHlH.kind = .ldMemHlR .h ∧ Instr.ldSpHl.kind = .ldSpHl := by decide

theorem witness_AccumulatorPointerLoads : Instr.ldAMemBc.kind = .ldAInd .bc ∧ Instr.ldAMemDe.kind = .ldAInd .de ∧
    Instr.ldAMemHlInc.kind = .ldAInd .hlInc ∧ Instr.ldAMemHlDec.kind = .ldAInd .hlDec ∧ Instr.ldMemBcA.kind = .ldIndA .bc ∧
    Instr.ldMemHlDecA.kind = .ldIndA .hlDec ∧ Instr.ldAMemC.kind = .ldAMemC ∧ Instr.ldMemCA.kind = .ldMemCA := by decide

theorem witness_ByteOperandLoads : (Instr.ldAN8 0xFF).kind = .ldRN .a 0xFF ∧ (Instr.ldMemHlN8 0).kind = .ldMemHlN 0 ∧
    (Instr.ldhAMemN8 0x80).kind = .ldhAN 0x80 ∧ (Instr.ldhMemN8A 0xFF).kind = .ldhNA 0xFF := by decide

theorem witness_WordOperandLoads : (Instr.ldAMemN16 0xFFFF).kind = .ldAAbs 0xFFFF ∧
    (Instr.ldMemN16A 0).kind = .ldAbsA 0 ∧ (Instr.ldSpN16 0xFFFE).kind = .ldRRN .sp 0xFFFE ∧
    (Instr.ldMemN16Sp 0xFFFF).kind = .ldAbsSp 0xFFFF := by decide

theorem witness_StackPointerSums : (Instr.ldHlSpE8 0xFF).kind = .ldHlSpE 0xFF ∧ (Instr.addSpE8 0x80).kind = .addSp 0x80 ∧
    lowZero State.reset := by decide

theorem witness_PushStoresHighThenLow : Instr.pushBc.kind = .push .bc ∧ Instr.pushAf.kind = .push .af := by decide

theorem witness_PopReadsLowThenHigh : Instr.popBc.kind = .pop .bc ∧ Instr.popAf.kind = .pop .af := by decide

theorem witness_EightBitOperationsOnA : Instr.addAB.kind = .aluR .add .b ∧ Instr.cpAMemHl.kind = .aluMemHl .cp ∧
    (Instr.sbcAN8 0xFF).kind = .aluN .sbc 0xFF ∧ lowZero State.reset := by decide

theorem witness_EightBitIncAndDec : Instr.incB.kind = .incR .b ∧ Instr.decA.kind = .decR .a ∧
    Instr.incMemHl.kind = .incMemHl ∧ Instr.decMemHl.kind = .decMemHl ∧ lowZero State.reset := by decide

theorem witness_IncAndDecOfAPair : Instr.incBc.kind = .incRR .bc ∧ Instr.decSp.kind = .decRR .sp := by decide

theorem witness_AddPairToHl : Instr.addHlHl.kind = .addHl .hl ∧ lowZero State.reset := by decide

/-- N clear and N set. -/
theorem witness_DecimalAdjust : Instr.daa.kind = .daa ∧
    (lowZero (start [0x27] { r0 with f := 0xF0 }) ∧ (start [0x27] { r0 with f := 0xF0 }).regs.nf = true) ∧
    (lowZero (start [0x27] { r0 with f := 0xB0 }) ∧ (start [0x27] { r0 with f := 0xB0 }).regs.nf = false) := by decide

theorem witness_ComplementAndCarryInstructions : Instr.cpl.kind = .cpl ∧ Instr.scf.kind = .scf ∧ Instr.ccf.kind = .ccf ∧
    lowZero State.reset := by decide

theorem witness_AccumulatorRotates : Instr.rlca.kind = .rotA .rlc ∧ Instr.rra.kind = .rotA .rr ∧ lowZero State.reset := by
  decide

theorem witness_CbRotatesAndShifts : Instr.rlcB.kind = .rotR .rlc .b ∧ Instr.srlMemHl.kind = .rotMemHl .srl ∧
    lowZero State.reset := by decide

theorem witness_BitTests : Instr.bit0B.kind = .bitR 0 .b ∧ Instr.bit7MemHl.kind = .bitMemHl 7 ∧ lowZero State.reset := by
  decide

theorem witness_BitResetsAndSets : Instr.res0B.kind = .resR 0 .b ∧ Instr.set7A.kind = .setR 7 .a ∧
    Instr.res7MemHl.kind = .resMemHl 7 ∧ Instr.set0MemHl.kind = .setMemHl 0 := by decide

theorem witness_TrampolineRunsTheCbInstruction : Instr.prefixCb.kind = .prefixCb ∧
    reads [0xCB, cpuRead (start [0xCB, 0x37] r0) ((start [0xCB, 0x37] r0).regs.pc + 1)] .swapA = true := by decide

theorem witness_UnconditionalJumps : (Instr.jpN16 0x0150).kind = .jp 0x0150 ∧ Instr.jpHl.kind = .jpHl ∧
    (Instr.jrE8 0x80).kind = .jr 0x80 := by decide

/-- Each condition holding and failing. -/
theorem witness_ConditionalJumps : (Instr.jpNzN16 2).kind = .jpCc .nz 2 ∧ (Instr.jrCE8 0xF0).kind = .jrCc .c 0xF0 ∧
    (∀ cc ∈ [Cond.nz, .z, .nc, .c], (∃ f : Byte, f ∈ [0x00, 0x90] ∧ condHolds cc { r0 with f := f } = true) ∧
      ∃ f : Byte, f ∈ [0x00, 0x90] ∧ condHolds cc { r0 with f := f } = false) := by
  refine ⟨by decide, by decide, fun cc h => ?_⟩
  cases cc
  · exact ⟨⟨0x00, by decide, by decide⟩, ⟨0x90, by decide, by decide⟩⟩
  · exact ⟨⟨0x90, by decide, by decide⟩, ⟨0x00, by decide, by decide⟩⟩
  · exact ⟨⟨0x00, by decide, by decide⟩, ⟨0x90, by decide, by decide⟩⟩
  · exact ⟨⟨0x90, by decide, by decide⟩, ⟨0x00, by decide, by decide⟩⟩

theorem witness_CallsAndRestarts : (Instr.callN16 0xFFFF).kind = .call 0xFFFF ∧
    (Instr.callNcN16 0).kind = .callCc .nc 0 ∧ Instr.rst38.kind = .rst 7 ∧
    condHolds .nc { r0 with f := 0x00 } = true ∧ condHolds .nc { r0 with f := 0x10 } = false := by decide

theorem witness_Returns : Instr.ret.kind = .ret ∧ Instr.reti.kind = .reti ∧ Instr.retZ.kind = .retCc .z ∧
    condHolds .z { r0 with f := 0x80 } = true ∧ condHolds .z { r0 with f := 0x00 } = false := by decide

/-- At reset the stack bytes 0xFFFD and 0xFFFC are HRAM. -/
theorem witness_PushThenPopRestoresThePair : Instr.pushAf.kind = .push .af ∧ Instr.popAf.kind = .pop .af ∧
    State.reset.Quiet ∧ State.reset.locks.dma = false ∧ region (State.reset.regs.sp - 1) = .hram ∧
    region (State.reset.regs.sp - 2) = .hram ∧
    ∃ t u, exec .pushAf State.reset = .next t ∧ exec .popAf t = .next u :=
  ⟨by decide, by decide, ⟨by decide, by decide, by decide⟩, by decide, by decide, by decide, _, _, rfl, rfl⟩

theorem witness_NopDiEiAndUnassigned : Instr.nop.kind = .nop ∧ Instr.illegalD3.kind = .illegal 0xD3 ∧
    Instr.illegalFD.kind = .illegal 0xFD ∧ Instr.di.kind = .di ∧ Instr.ei.kind = .ei ∧ State.reset.illegalFault = false ∧
    (State.powerOn Config.dmgPostBoot .empty (.staticRom .empty) true).illegalFault = true := by decide

/-- Each clause: the two-cycle case, the waiting case with IME set and with nothing queued, and a HALT in the slot. -/
theorem witness_HaltWaitsForAQueuedInterrupt : Instr.halt.kind = .halt ∧
    (let s := { State.reset with ie := 1, iflag := 1 }; s.ime = false ∧ s.queued = true) ∧
    (let s := { State.reset with ie := 1, iflag := 1, ime := true }; s.ime = true ∨ s.queued = false) ∧
    (State.reset.ime = true ∨ State.reset.queued = false) ∧
    (let s := { State.reset with cur := some (.running .halt (0 + 1) .fresh) };
      s.cur = some (.running .halt (0 + 1) .fresh) ∧ Latches.fresh.haltBug = false) := by decide

theorem witness_StopWaitsForTheJoypad : Instr.stop.kind = .stop ∧
    { State.reset with cur := some (.running .stop (0 + 1) .fresh) }.cur = some (.running .stop (0 + 1) .fresh) := by decide

/-- The first and the last address of each region. -/
theorem witness_RegionsOfTheAddressSpace : ([0x0000, 0x7FFF, 0x8000, 0x9FFF, 0xA000, 0xBFFF, 0xC000, 0xDFFF, 0xE000, 0xFDFF,
      0xFE00, 0xFE9F, 0xFEA0, 0xFEFF, 0xFF00, 0xFF7F, 0xFF80, 0xFFFE, 0xFFFF] : List Word).map region =
    [.rom, .rom, .vram, .vram, .eram, .eram, .wram, .wram, .unmapped, .unmapped, .oam, .oam, .unmapped, .unmapped, .io, .io,
      .hram, .hram, .ie] := by decide

/-- What a lock blocks, in the words of the obligation. -/
def shutOut (l : Locks) (a : Word) (src : Source) : Bool :=
  decide ((l.dma = true ∧ src ≠ .dma ∧ region a ∈ [.rom, .vram, .eram, .wram, .oam]) ∨
    (l.vram = true ∧ src ≠ .ppu ∧ region a = .vram) ∨ (l.oam = true ∧ src = .cpu ∧ region a = .oam))

/-- An access each lock blocks, at both ends of its region, and accesses none blocks. -/
theorem witness_LocksBlockReadsAndWrites :
    ([0x0000, 0xDFFF, 0xFE00, 0xFE9F] : List Word).all (fun a => shutOut { vram := false, oam := false, dma := true } a .ppu) =
      true ∧
    ([0x8000, 0x9FFF] : List Word).all (fun a => shutOut { vram := true, oam := false, dma := false } a .dma) = true ∧
    ([0xFE00, 0xFE9F] : List Word).all (fun a => shutOut { vram := false, oam := true, dma := false } a .cpu) = true ∧
    ([0xE000, 0xFEA0, 0xFF00, 0xFF80, 0xFFFF] : List Word).all
      (fun a => !shutOut { vram := true, oam := true, dma := true } a .cpu) = true := by decide

theorem witness_RamReadsWhatWasWritten :
    ([0x8000, 0x9FFF, 0xC000, 0xDFFF, 0xFE00, 0xFE9F, 0xFF80, 0xFFFE] : List Word).all
      (fun a => isRam (region a) && !blocked State.reset.locks (region a) .cpu) = true := by decide

theorem witness_IeAndUnmappedAnswerUnderAnyLock :
    ([0xE000, 0xFDFF, 0xFEA0, 0xFEFF] : List Word).all (fun a => region a == .unmapped) = true := by decide

theorem witness_IoReads : ([0xFF03, 0xFF08, 0xFF0E, 0xFF10, 0xFF3F, 0xFF4A, 0xFF7F] : List Word).all (fun a =>
    decide (a = 0xFF03 ∨ (0xFF08 ≤ a.toNat ∧ a.toNat ≤ 0xFF0E) ∨ (0xFF10 ≤ a.toNat ∧ a.toNat ≤ 0xFF3F) ∨
      (0xFF4A ≤ a.toNat ∧ a.toNat ≤ 0xFF7F))) = true := by decide

theorem witness_PowerOnState : ([0xFF01, 0xFF02, 0xFF40, 0xFF49] : List Word).all (fun a =>
    decide (a = 0xFF01 ∨ a = 0xFF02 ∨ (0xFF40 ≤ a.toNat ∧ a.toNat ≤ 0xFF49))) = true := by decide

theorem witness_CartridgeContract : State.reset.locks.dma = false ∧ State.reset.cart = .staticRom .empty ∧
    region 0x0000 = .rom ∧ region 0x7FFF = .rom ∧ region 0xA000 = .eram ∧ region 0xBFFF = .eram := by decide

theorem witness_OverflowReloadsOneTickLater :
    let t : Timer := { sysctr := 7, tima := 0xFF, tma := 0x80, tac := 5, prevBit := true, ovfPending := false };
    t.ovfPending = false ∧ t.tima = 0xFF ∧ t.prevBit = true ∧ watchedBit (t.sysctr + 1) t.tac = false := by decide

theorem witness_DivCountsAndResets :
    let t : Timer := { sysctr := 2, tima := 0xFF, tma := 0, tac := 5, prevBit := true, ovfPending := false };
    t.prevBit = true ∧ t.ovfPending = false := by decide

/-- Each clock select. -/
theorem witness_TimaCountsOncePerPeriod : ([4, 5, 6, 7] : List (BitVec 3)).all (fun tac =>
    let t : Timer := { sysctr := 0, tima := 0xFE, tma := 0, tac := tac, prevBit := false, ovfPending := false };
    decide (t.tac.getLsbD 2 = true ∧ t.ovfPending = false ∧ t.tima ≠ 0xFF ∧ t.prevBit = watchedBit t.sysctr t.tac)) =
      true := by decide

theorem witness_DmaCopiesOnePageIn160Ticks : ([0x01, 0xC0, 0xFF] : List Byte).all (fun v =>
    let s := { State.reset with dma := { step := 0, bank := 0, trigger := v } };
    decide (s.dma.step = 0 ∧ s.dma.trigger = v ∧ v ≠ 0)) = true := by decide

theorem witness_EnvironmentTouchesOnlyItsOwn : ([0xC000, 0xDFFF, 0xFF80, 0xFFFE] : List Word).all
    (fun a => region a == .wram || region a == .hram) = true := by decide

/-- A store, with an address outside it of each clause. -/
theorem witness_MemoryFrame :
    let s := start [0x22] { r0 with h := 0xC0, l := 0 };
    s.Quiet ∧ storeAddrs .ldMemHlIncA s = [0xC000] ∧ (0xFF46 : Word) ∉ storeAddrs .ldMemHlIncA s ∧
      (∃ t, exec .ldMemHlIncA s = .next t) ∧ (0xC001 : Word) ∉ storeAddrs .ldMemHlIncA s ∧ (0xC001 : Word) ∉ timerAddrs ∧
      region 0xC001 = .wram ∧ region 0xC000 = .wram ∧ isCart 0x0000 :=
  ⟨⟨by decide, by decide, by decide⟩, by decide, by decide, ⟨_, rfl⟩, by decide, by decide, by decide, by decide,
    Or.inl (by decide)⟩

theorem witness_ImeChangesOnlyByItsOwnInstructions : (∃ t, exec .ldAB State.reset = .next t) ∧
    Instr.ldAB.kind ≠ .di ∧ Instr.ldAB.kind ≠ .ei ∧ Instr.ldAB.kind ≠ .reti :=
  ⟨⟨_, rfl⟩, by decide, by decide, by decide⟩

theorem witness_FlagFrame : (∃ t, exec .pushAf State.reset = .next t) ∧ Instr.pushAf.kind = .push .af :=
  ⟨⟨_, rfl⟩, by decide⟩

theorem witness_QuiescentStaysAsItIs :
    let s := { State.reset with cur := some (.running .halt 1 .fresh) };
    quiescent s = true ∧ s.dma.trigger = 0 := by decide

end Sys2Proof.Tests
end

section
/-! What one tick, one M-cycle and one run of an instruction object can change, said once for each: the register file's
low nibble (10_state.md R22), the memories' form (R34), the slot, IME (R26) and F. -/

namespace Sys2Proof.Machine

/-! ### Register files that keep F's low nibble zero -/

/-- The second register file has F's low nibble zero if the first has (10_state.md R22). -/
def LowKept (r r' : Regs) : Prop := r.f &&& 0x0F = 0 → r'.f &&& 0x0F = 0

section
variable {r x : Regs}

theorem lowKept_congr {y : Regs} (e : y.f = x.f) : LowKept r y ↔ LowKept r x := by unfold LowKept; rw [e]

@[simp] theorem lowKept_refl : LowKept r r := id

theorem lowKept_setZf (b : Bool) (h : LowKept r x) : LowKept r (x.setZf b) :=
  fun hr => lowNibble_setZf x b (h hr)
theorem lowKept_setNf (b : Bool) (h : LowKept r x) : LowKept r (x.setNf b) :=
  fun hr => lowNibble_setNf x b (h hr)
theorem lowKept_setHf (b : Bool) (h : LowKept r x) : LowKept r (x.setHf b) :=
  fun hr => lowNibble_setHf x b (h hr)
theorem lowKept_setCf (b : Bool) (h : LowKept r x) : LowKept r (x.setCf b) :=
  fun hr => lowNibble_setCf x b (h hr)
theorem lowKept_setFlags (z n hc cy : Bool) (h : LowKept r x) : LowKept r (x.setFlags z n hc cy) :=
  fun hr => lowNibble_setFlags x z n hc cy (h hr)

@[simp] theorem lowKept_set8 (y : R8) (v : Byte) : LowKept r (x.set8 y v) ↔ LowKept r x := lowKept_congr (set8_f x y v)
@[simp] theorem lowKept_setHl (v : Word) : LowKept r (x.setHl v) ↔ LowKept r x := lowKept_congr rfl

/-- POP AF stores `v & 0xF0`, whatever F held. -/
@[simp] theorem lowKept_setAf (v : Word) : LowKept r (x.setAf v) := by
  have mask : ∀ b : Byte, b &&& 0xF0 &&& 0x0F = 0 := by decide
  exact fun _ => mask (loByte v)

@[simp] theorem lowKept_alu (o : AluOp) (v : Byte) (h : LowKept r x) : LowKept r (x.alu o v) := by
  unfold Regs.alu
  dsimp only
  split
  · exact (lowKept_congr rfl).2 (lowKept_setFlags _ _ _ _ h)
  · exact lowKept_setFlags _ _ _ _ h

@[simp] theorem lowKept_incFlags (v : Byte) (h : LowKept r x) : LowKept r (x.incFlags v) :=
  lowKept_setHf _ (lowKept_setNf _ (lowKept_setZf _ h))
@[simp] theorem lowKept_decFlags (v : Byte) (h : LowKept r x) : LowKept r (x.decFlags v) :=
  lowKept_setHf _ (lowKept_setNf _ (lowKept_setZf _ h))
@[simp] theorem lowKept_addHl (v : Word) (h : LowKept r x) : LowKept r (x.addHl v) :=
  (lowKept_setHl _).2 (lowKept_setCf _ (lowKept_setHf _ (lowKept_setNf _ h)))
@[simp] theorem lowKept_spaddFlags (s : Word) (e : Byte) (h : LowKept r x) : LowKept r (x.spaddFlags s e) :=
  lowKept_setFlags _ _ _ _ h
@[simp] theorem lowKept_daa (h : LowKept r x) : LowKept r x.daa :=
  lowKept_setCf _ (lowKept_setHf _ (lowKept_setZf _ ((lowKept_congr rfl).2 h)))
@[simp] theorem lowKept_cpl (h : LowKept r x) : LowKept r x.cpl :=
  lowKept_setHf _ (lowKept_setNf _ ((lowKept_congr rfl).2 h))
@[simp] theorem lowKept_scf (h : LowKept r x) : LowKept r x.scf := lowKept_setCf _ (lowKept_setHf _ (lowKept_setNf _ h))
@[simp] theorem lowKept_ccf (h : LowKept r x) : LowKept r x.ccf := lowKept_setCf _ (lowKept_setHf _ (lowKept_setNf _ h))
@[simp] theorem lowKept_rotAFlags (k : RotOp) (v a : Byte) (h : LowKept r x) :
    LowKept r (({ x with a := a } : Regs).rotAFlags k v) := lowKept_setFlags _ _ _ _ ((lowKept_congr rfl).2 h)
@[simp] theorem lowKept_rotFlags (k : RotOp) (v : Byte) (h : LowKept r x) : LowKept r (x.rotFlags k v) :=
  lowKept_setFlags _ _ _ _ h
@[simp] theorem lowKept_bitFlags (b : Fin 8) (v : Byte) (h : LowKept r x) : LowKept r (x.bitFlags b v) :=
  lowKept_setHf _ (lowKept_setNf _ (lowKept_setZf _ h))

end

/-! ### Register writes that leave F -/

@[simp] theorem set16_f (r : Regs) (p : R16) (v : Word) : (r.set16 p v).f = r.f := by cases p <;> rfl
@[simp] theorem ptrUpdate_f (r : Regs) (m : Ptr) : (r.ptrUpdate m).f = r.f := by cases m <;> rfl

/-! ### What a tick leaves -/

/-- The kinds whose rules write F; the bare trampoline's sub-instruction may. -/
def writesFlags : Kind → Bool
  | .ldHlSpE _ | .pop .af | .aluR _ _ | .aluMemHl _ | .aluN _ _ | .incR _ | .incMemHl | .decR _ | .decMemHl | .addHl _
  | .addSp _ | .daa | .cpl | .scf | .ccf | .rotA _ | .rotR _ _ | .rotMemHl _ | .bitR _ _ | .bitMemHl _ | .prefixCb => true
  | _ => false

/-- The kinds whose rules write IME (10_state.md R26). -/
def writesIme : Kind → Bool
  | .di | .ei | .reti => true
  | _ => false

/-- What the tick of an object that may write F (`wf`) and IME (`wi`) leaves of the state it starts in. -/
structure CpuFrame (wf wi : Bool) (s t : State) : Prop where
  store : StoreFrame s t
  form : MemoryForm s → MemoryForm t
  cur : t.cur = s.cur
  lowF : LowKept s.regs t.regs
  flags : wf = false → t.regs.f = s.regs.f
  ime : wi = false → t.ime = s.ime

section
variable {wf wi : Bool} {s t : State}

@[simp] theorem cpuFrame_refl : CpuFrame wf wi s s := ⟨.refl s, id, rfl, id, fun _ => rfl, fun _ => rfl⟩

/-- A register write that may write F. -/
@[simp] theorem cpuFrame_setRegs_flags {r : Regs} (h : CpuFrame true wi s t) (hr : LowKept t.regs r) :
    CpuFrame true wi s (t.setRegs r) where
  store := h.store.trans ⟨rfl, rfl, rfl, rfl, rfl, rfl, rfl, rfl⟩
  form hs := ⟨(h.form hs).memWf, (h.form hs).memRam, (h.form hs).cartWf⟩
  cur := h.cur
  lowF := fun hs => hr (h.lowF hs)
  flags := nofun
  ime := h.ime

theorem CpuFrame.setRegs {r : Regs} (h : CpuFrame wf wi s t) (hf : r.f = t.regs.f) : CpuFrame wf wi s (t.setRegs r) where
  store := h.store.trans ⟨rfl, rfl, rfl, rfl, rfl, rfl, rfl, rfl⟩
  form hs := ⟨(h.form hs).memWf, (h.form hs).memRam, (h.form hs).cartWf⟩
  cur := h.cur
  lowF := (lowKept_congr hf).2 h.lowF
  flags hw := hf.trans (h.flags hw)
  ime := h.ime

/-- A register write that leaves F is in every frame. -/
@[simp] theorem cpuFrame_setRegs {r : Regs} (hf : r.f = t.regs.f) :
    CpuFrame wf wi s (t.setRegs r) ↔ CpuFrame wf wi s t :=
  ⟨fun h => h.setRegs (r := t.regs) hf.symm, fun h => h.setRegs hf⟩

@[simp] theorem cpuFrame_advancePc (n : Word) : CpuFrame wf wi s (t.advancePc n) ↔ CpuFrame wf wi s t :=
  cpuFrame_setRegs rfl
@[simp] theorem cpuFrame_setPc (a : Word) : CpuFrame wf wi s (t.setPc a) ↔ CpuFrame wf wi s t := cpuFrame_setRegs rfl
@[simp] theorem cpuFrame_setSp (v : Word) : CpuFrame wf wi s (t.setSp v) ↔ CpuFrame wf wi s t := cpuFrame_setRegs rfl
@[simp] theorem cpuFrame_popSp : CpuFrame wf wi s t.popSp ↔ CpuFrame wf wi s t := cpuFrame_setRegs rfl
@[simp] theorem cpuFrame_set8 (x : R8) (v : Byte) : CpuFrame wf wi s (t.set8 x v) ↔ CpuFrame wf wi s t :=
  cpuFrame_setRegs (set8_f _ x v)
@[simp] theorem cpuFrame_alu (o : AluOp) (v : Byte) (h : CpuFrame true wi s t) : CpuFrame true wi s (t.alu o v) :=
  cpuFrame_setRegs_flags h (lowKept_alu o v lowKept_refl)

/-- Of the four pairs POP writes, AF alone holds F. -/
theorem cpuFrame_setStk (q : R16Stk) (v : Word) (h : CpuFrame (writesFlags (.pop q)) wi s t) :
    CpuFrame (writesFlags (.pop q)) wi s (t.setRegs (t.regs.setStk q v)) := by
  cases q with
  | af => exact cpuFrame_setRegs_flags h (lowKept_setAf v)
  | _ => exact h.setRegs rfl

@[simp] theorem cpuFrame_cpuWrite (a : Word) (v : Byte) (h : CpuFrame wf wi s t) :
    CpuFrame wf wi s (cpuWrite t a v) where
  store := h.store.trans (busWrite_frame t a v .cpu)
  form hs := busWrite_form a v .cpu (h.form hs)
  cur := (cpuWrite_cur t a v).trans h.cur
  lowF := by rw [cpuWrite_regs]; exact h.lowF
  flags hw := by rw [cpuWrite_regs]; exact h.flags hw
  ime hw := (cpuWrite_ime t a v).trans (h.ime hw)

@[simp] theorem cpuFrame_pushByte (v : Byte) (h : CpuFrame wf wi s t) : CpuFrame wf wi s (pushByte t v) :=
  cpuFrame_cpuWrite _ v ((cpuFrame_setSp _).2 h)

/-- A write of IME. -/
theorem cpuFrame_setIme (b : Bool) (h : CpuFrame wf true s t) : CpuFrame wf true s { t with ime := b } where
  store := h.store.trans ⟨rfl, rfl, rfl, rfl, rfl, rfl, rfl, rfl⟩
  form hs := ⟨(h.form hs).memWf, (h.form hs).memRam, (h.form hs).cartWf⟩
  cur := h.cur
  lowF := h.lowF
  flags := h.flags
  ime := nofun

@[simp] theorem cpuFrame_returnFromInterrupt (hi lo : Byte) (h : CpuFrame wf true s t) :
    CpuFrame wf true s (returnFromInterrupt hi lo t) := cpuFrame_setIme true ((cpuFrame_setPc _).2 h)

/-- STOP's reset of the divider counter (45_system.md R302). -/
theorem cpuFrame_resetDivider (h : CpuFrame wf wi s t) :
    CpuFrame wf wi s { t with timer := { t.timer with sysctr := 0 } } where
  store := h.store.trans ⟨rfl, rfl, rfl, rfl, rfl, rfl, rfl, rfl⟩
  form hs := ⟨(h.form hs).memWf, (h.form hs).memRam, (h.form hs).cartWf⟩
  cur := h.cur
  lowF := h.lowF
  flags := h.flags
  ime := h.ime

/-- An object that may write F is held to less. -/
theorem CpuFrame.weaken (h : CpuFrame wf wi s t) : CpuFrame true wi s t :=
  ⟨h.store, h.form, h.cur, h.lowF, nofun, h.ime⟩

end

/-- The tick of an object that never stops the machine: what it leaves of the state, and the trampoline's latch kept. -/
structure TickLaw (wf wi : Bool) (l : Latches) (s : State) (t : Tick) : Prop where
  frame : CpuFrame wf wi s t.state
  sub : t.latches.sub = l.sub
  noStop : t.result ≠ .stop

section
variable {wf wi : Bool} {l l' : Latches} {s s' : State}

@[simp] theorem tickLaw_more : TickLaw wf wi l s (.more s' l') ↔ CpuFrame wf wi s s' ∧ l'.sub = l.sub :=
  ⟨fun h => ⟨h.frame, h.sub⟩, fun h => ⟨h.1, h.2, nofun⟩⟩
@[simp] theorem tickLaw_last : TickLaw wf wi l s (.last s' l') ↔ CpuFrame wf wi s s' ∧ l'.sub = l.sub :=
  ⟨fun h => ⟨h.frame, h.sub⟩, fun h => ⟨h.1, h.2, nofun⟩⟩
@[simp] theorem tickLaw_halt :
    TickLaw wf wi l s { state := s', latches := l', result := .halt } ↔ CpuFrame wf wi s s' ∧ l'.sub = l.sub :=
  ⟨fun h => ⟨h.frame, h.sub⟩, fun h => ⟨h.1, h.2, nofun⟩⟩
@[simp] theorem tickLaw_ite (c : Prop) [Decidable c] (t t' : Tick) :
    TickLaw wf wi l s (if c then t else t') ↔ if c then TickLaw wf wi l s t else TickLaw wf wi l s t' := by
  split <;> rfl

end

/-- The tick of every kind but STOP, by its step: each is one of the named updates of the state, whose frames are the
simp lemmas above. The kinds that write IME, POP and LD rr,nn name theirs. -/
theorem tableTicks_law {k : Kind} (hk : k ≠ .stop) (n : Nat) (l : Latches) (s : State) :
    TickLaw (writesFlags k) (writesIme k) l s (tableTicks k n l s) := by
  cases k with
  | stop => exact absurd rfl hk
  | di | ei =>
    simp only [tableTicks, diTicks.eq_def, eiTicks.eq_def]
    split
    · exact tickLaw_last.2 ⟨cpuFrame_setIme _ ((cpuFrame_advancePc 1).2 cpuFrame_refl), rfl⟩
    · simp
  | pop q =>
    simp only [tableTicks, popTicks.eq_def]
    split
    case h_3 => exact tickLaw_last.2 ⟨cpuFrame_setStk q _ (cpuFrame_popSp.2 cpuFrame_refl), rfl⟩
    all_goals simp
  | ldRRN p nn =>
    simp only [tableTicks, ldRRNTicks.eq_def]
    split
    case h_3 =>
      exact tickLaw_last.2 ⟨(cpuFrame_setRegs (set16_f _ p nn)).2 ((cpuFrame_advancePc 3).2 cpuFrame_refl), rfl⟩
    all_goals simp
  | _ =>
    simp only [tableTicks, writesFlags, writesIme, nopTicks.eq_def, haltTicks.eq_def,
      ldRRTicks.eq_def, ldRNTicks.eq_def, ldRMemHlTicks.eq_def, ldMemHlRTicks.eq_def, ldMemHlNTicks.eq_def,
      ldAIndTicks.eq_def, ldIndATicks.eq_def, ldAAbsTicks.eq_def, ldAbsATicks.eq_def, ldhANTicks.eq_def,
      ldhNATicks.eq_def, ldAMemCTicks.eq_def, ldMemCATicks.eq_def, ldAbsSpTicks.eq_def,
      ldSpHlTicks.eq_def, ldHlSpETicks.eq_def, pushTicks.eq_def, aluRTicks.eq_def, aluMemHlTicks.eq_def,
      aluNTicks.eq_def, incRTicks.eq_def, incMemHlTicks.eq_def, decRTicks.eq_def, decMemHlTicks.eq_def,
      incRRTicks.eq_def, decRRTicks.eq_def, addHlTicks.eq_def, addSpTicks.eq_def, daaTicks, cplTicks, scfTicks, ccfTicks,
      regsTicks.eq_def, rotATicks.eq_def, rotRTicks, rotMemHlTicks, bitRTicks, bitMemHlTicks.eq_def, resRTicks,
      resMemHlTicks, setRTicks, setMemHlTicks, cbRegTicks.eq_def, cbMemTicks.eq_def, jpTicks.eq_def, jpCcTicks.eq_def,
      jpHlTicks.eq_def, jrTicks.eq_def, jrCcTicks.eq_def, callTicks.eq_def, callCcTicks.eq_def, retTicks.eq_def,
      retCcTicks.eq_def, retiTicks.eq_def, rstTicks.eq_def]
    split <;> simp

end Sys2Proof.Machine
end

section
/-! The objects of the slot, kind by kind and over their whole run: the frame of a tick carried through the M-cycle and
through `runTicks`. -/

namespace Sys2Proof.Machine

/-! ### Ticks of an object in the slot -/

/-- The divider counter is reset by STOP's first tick and left by every later one (45_system.md R302). -/
theorem stopTicks_frame (n : Nat) (l : Latches) (s : State) : CpuFrame false false s (stopTicks n l s).state := by
  cases n with
  | zero => exact cpuFrame_resetDivider ((cpuFrame_advancePc _).2 cpuFrame_refl)
  | succ n => exact cpuFrame_refl

/-- A trampoline's latch holds no sub-instruction but one of the CB table (45_system.md R305). -/
def LatchLegal (k : Kind) (l : Latches) : Prop := k = .prefixCb → l.sub.all isCbKind = true

theorem latchLegal_fresh (k : Kind) : LatchLegal k .fresh := fun _ => rfl

theorem isCbKind_decodeOpcodePrefix (cb : Byte) : isCbKind (decodeOpcodePrefix cb).kind = true := by
  revert cb; decide

/-- The kinds of the CB table neither write IME nor stop the machine. -/
theorem writesIme_of_isCbKind {k : Kind} (h : isCbKind k = true) : writesIme k = false := by
  unfold writesIme
  split
  case h_4 => rfl
  all_goals exact absurd h nofun
theorem ne_stop_of_isCbKind {k : Kind} (h : isCbKind k = true) : k ≠ .stop := by
  rintro rfl; exact absurd h nofun

/-- The tick of any object but STOP: its frame, its latch still legal, and a result that is not STOP. -/
structure ObjectTick (k : Kind) (s : State) (t : Tick) : Prop where
  frame : CpuFrame (writesFlags k) (writesIme k) s t.state
  latches : LatchLegal k t.latches
  noStop : t.result ≠ .stop

theorem kindTicks_object {k : Kind} (hk : k ≠ .stop) (n : Nat) {l : Latches} (hl : LatchLegal k l) (s : State) :
    ObjectTick k s (kindTicks k n l s) := by
  by_cases hp : k = .prefixCb
  · subst hp
    cases n with
    | zero =>
      exact ⟨(cpuFrame_advancePc 2).2 cpuFrame_refl, fun _ => isCbKind_decodeOpcodePrefix _, nofun⟩
    | succ n =>
      show ObjectTick .prefixCb s (match l.sub with | some k => tableTicks k (n + 1) l s | none => .last s l)
      have hsub := hl rfl
      cases e : l.sub with
      | none => exact ⟨cpuFrame_refl, fun _ => hsub, nofun⟩
      | some j =>
        have hj : isCbKind j = true := by rw [e] at hsub; exact hsub
        have h := tableTicks_law (ne_stop_of_isCbKind hj) (n + 1) l s
        rw [writesIme_of_isCbKind hj] at h
        exact ⟨h.frame.weaken, fun _ => by rw [h.sub]; exact hsub, h.noStop⟩
  · have e : kindTicks k = tableTicks k := by
      unfold kindTicks
      split
      · exact absurd rfl hp
      · rfl
    have h := tableTicks_law hk n l s
    rw [e]
    exact ⟨h.frame, fun hk => absurd hk hp, h.noStop⟩

theorem kindTicks_frame (k : Kind) (n : Nat) {l : Latches} (hl : LatchLegal k l) (s : State) :
    CpuFrame (writesFlags k) (writesIme k) s (kindTicks k n l s).state := by
  by_cases hk : k = .stop
  · subst hk; exact stopTicks_frame n l s
  · exact (kindTicks_object hk n hl s).frame

theorem kindTicks_latches (k : Kind) (n : Nat) {l : Latches} (hl : LatchLegal k l) (s : State) :
    LatchLegal k (kindTicks k n l s).latches := by
  by_cases hk : k = .stop
  · subst hk; exact nofun
  · exact (kindTicks_object hk n hl s).latches

theorem serviceTicks_law (t : Irq) (n : Nat) (l : Latches) (s : State) :
    TickLaw false false l s (serviceTicks t n l s) := by
  rw [serviceTicks.eq_def]
  split <;> simp

/-! ### The end of an M-cycle, whatever the tick's result -/

/-- Steps 5 to 7 of the CPU tick are the timer step and, for HALT and STOP, the slot emptied (R140, R141, R142). -/
theorem cpuTickEnd_eq (r : TickResult) (s : State) :
    ∃ c, (c = s.cur ∨ c = none) ∧ cpuTickEnd r s = (timerStep r s).withCpu s.regs s.ime c := by
  cases r with
  | running => exact ⟨s.cur, .inl rfl, rfl⟩
  | finished => exact ⟨s.cur, .inl rfl, rfl⟩
  | halt =>
    show ∃ c, _ ∧ (if (timerTick s).queued then { timerTick s with cur := none } else timerTick s) = _
    split
    · exact ⟨none, .inr rfl, rfl⟩
    · exact ⟨s.cur, .inl rfl, rfl⟩
  | stop =>
    show ∃ c, _ ∧ (if s.joypNibble = 0 then { s with cur := none } else s) = _
    split
    · exact ⟨none, .inr rfl, rfl⟩
    · exact ⟨s.cur, .inl rfl, rfl⟩

/-- The end of an M-cycle is the timer's, the environment's and the DMA controller's, with the CPU's own parts as they
were but for a slot that may be emptied. -/
theorem endCycle_eq (r : TickResult) (s : State) :
    ∃ c, (c = s.cur ∨ c = none) ∧ endCycle r s = (dmaTick (envStep (timerStep r s))).withCpu s.regs s.ime c := by
  obtain ⟨c, hc, e⟩ := cpuTickEnd_eq r s
  refine ⟨c, hc, ?_⟩
  unfold endCycle
  rw [e, envStep_withCpu, dmaTick_withCpu]

theorem endCycle_regs_any (r : TickResult) (s : State) : (endCycle r s).regs = s.regs := by
  obtain ⟨c, -, e⟩ := endCycle_eq r s; rw [e]; rfl
theorem endCycle_ime_any (r : TickResult) (s : State) : (endCycle r s).ime = s.ime := by
  obtain ⟨c, -, e⟩ := endCycle_eq r s; rw [e]; rfl
theorem endCycle_cur_any (r : TickResult) (s : State) : (endCycle r s).cur = s.cur ∨ (endCycle r s).cur = none := by
  obtain ⟨c, hc, e⟩ := endCycle_eq r s; rw [e]; exact hc

/-- The slot after a tick is all that retiring an object changes. -/
theorem retire_eq (r : TickResult) (n : Nat) (l : Latches) (s : State) :
    retire r n l s = { s with cur := (retire r n l s).cur } := by cases r <;> rfl

theorem cycle_regs (t : Ticks) (n : Nat) (l : Latches) (s : State) : (cycle t n l s).state.regs = (t n l s).state.regs := by
  refine (endCycle_regs_any _ _).trans ?_
  rw [retire_eq]
theorem cycle_ime (t : Ticks) (n : Nat) (l : Latches) (s : State) : (cycle t n l s).state.ime = (t n l s).state.ime := by
  refine (endCycle_ime_any _ _).trans ?_
  rw [retire_eq]

/-! ### The run of an object -/

/-- What every M-cycle of an object keeps, its latches being of a kind that its ticks keep, its run keeps. -/
theorem runTicks_keeps {t : Ticks} {L : Latches → Prop} {P : State → Prop}
    (hL : ∀ n l s, L l → L (t n l s).latches) (hP : ∀ n l s, L l → P s → P (cycle t n l s).state)
    (fuel n : Nat) {l : Latches} {s : State} (hl : L l) (hs : P s) : P (runTicks fuel t n l s) := by
  induction fuel generalizing n l s with
  | zero => exact hs
  | succ fuel ih =>
    have h := hP n l s hl hs
    unfold runTicks
    dsimp only
    split
    case h_1 => exact ih (n + 1) (hL n l s hl) h
    all_goals exact h

/-- The run of an object whose kind writes no flag leaves F. -/
theorem runTicks_f {k : Kind} (hk : writesFlags k = false) (fuel n : Nat) {l : Latches} (hl : LatchLegal k l) (s : State) :
    (runTicks fuel (kindTicks k) n l s).regs.f = s.regs.f := by
  refine runTicks_keeps (L := LatchLegal k) (P := fun u => u.regs.f = s.regs.f)
    (fun n _ s hl => kindTicks_latches k n hl s) ?_ fuel n hl rfl
  intro n l u hl hu
  rw [cycle_regs, (kindTicks_frame k n hl u).flags hk, hu]

/-- The run of an object whose kind does not write IME leaves it. -/
theorem runTicks_ime {k : Kind} (hk : writesIme k = false) (fuel n : Nat) {l : Latches} (hl : LatchLegal k l) (s : State) :
    (runTicks fuel (kindTicks k) n l s).ime = s.ime := by
  refine runTicks_keeps (L := LatchLegal k) (P := fun u => u.ime = s.ime)
    (fun n _ s hl => kindTicks_latches k n hl s) ?_ fuel n hl rfl
  intro n l u hl hu
  rw [cycle_ime, (kindTicks_frame k n hl u).ime hk, hu]

/-- The run of a ServiceRoutine leaves IME. -/
theorem runTicks_service_ime (t : Irq) (fuel n : Nat) (l : Latches) (s : State) :
    (runTicks fuel (serviceTicks t) n l s).ime = s.ime := by
  refine runTicks_keeps (L := fun _ => True) (P := fun u => u.ime = s.ime) (fun _ _ _ _ => trivial) ?_ fuel n trivial rfl
  intro n l u _ hu
  rw [cycle_ime, (serviceTicks_law t n l u).frame.ime rfl, hu]

/-- An instruction that answers a next state answers the run of its object. -/
theorem exec_next {i : Instr} {s t : State} (h : exec i s = .next t) :
    t = runTicks maxCycles (kindTicks i.kind) (immediateBytes i.kind) .fresh s := by
  rw [exec_eq_performKind] at h
  by_cases hi : ∃ op, i.kind = .illegal op
  · obtain ⟨op, hk⟩ := hi
    rw [hk, performKind_illegal] at h
    rw [hk]
    split at h
    · exact nomatch h
    · exact (Host.Outcome.next.inj h).symm
  · rw [performKind_eq fun op e => hi ⟨op, e⟩] at h
    exact (Host.Outcome.next.inj h).symm

end Sys2Proof.Machine

/-! ### The frames of IME and F -/

section
open Sys2Proof Sys2Proof.Machine

/-- Settles O58: no tick of another kind and no end of an M-cycle writes IME, and the ServiceRoutine leaves it cleared. -/
theorem imeChangesOnlyByItsOwnInstructions : Obligations.ImeChangesOnlyByItsOwnInstructions := by
  refine ⟨fun i s t h hdi hei hreti => ?_, fun t s => ?_, fun s a v src => ?_⟩
  · have hk : writesIme i.kind = false := by
      unfold writesIme
      split
      case h_4 => rfl
      all_goals contradiction
    rw [exec_next h]
    exact runTicks_ime hk _ _ (latchLegal_fresh _) s
  · exact runTicks_service_ime t maxCycles 0 .fresh (acceptIrq t s)
  · exact ime_of_withCpu (f := fun s => busWrite s a v src) (fun s r b c => busWrite_withCpu s r b c a v src) s

/-- Settles O59: the kinds of the statement are among those whose ticks write no flag. -/
theorem flagFrame : Obligations.FlagFrame := by
  intro i s t h hkind
  have hk : writesFlags i.kind = false := by
    generalize i.kind = k at hkind
    unfold writesFlags
    split
    case h_22 => rfl
    all_goals exact False.elim hkind
  rw [exec_next h]
  exact runTicks_f hk _ _ (latchLegal_fresh _) s

end
end

section
/-! The invariant over the M-cycles of an object, a fetch, a step and a system step (10_state.md R22, R34; 45_system.md R305;
60_exceptions.md R342, R345). -/

namespace Sys2Proof.Machine

/-! ### The invariant without the slot -/

/-- The invariant's clauses that do not speak of the slot. -/
structure State.Sound (s : State) : Prop where
  fLow : s.regs.f &&& 0x0F = 0
  form : MemoryForm s
  dmaLock : s.locks.dma = decide (s.dma.step ≠ 0)

theorem inv_iff (s : State) : s.Inv ↔ s.Sound ∧ slotLegal s = true :=
  ⟨fun h => ⟨⟨h.fLow, ⟨h.memWf, h.memRam, h.cartWf⟩, h.dmaLock⟩, h.slot⟩,
   fun ⟨h, hs⟩ => ⟨h.fLow, h.form.memWf, h.form.memRam, h.form.cartWf, h.dmaLock, hs⟩⟩

/-- A slot whose content is legal whatever the divider counter: no STOP, and no trampoline but a legal one. -/
def slotCalm : Option Obj → Prop
  | some (.running k _ l) => k ≠ .stop ∧ LatchLegal k l
  | _ => True

/-- What holds between two M-cycles of any object but STOP. -/
structure State.Calm (s : State) : Prop where
  sound : s.Sound
  slot : slotCalm s.cur

theorem slotLegal_of_calm {s : State} (h : slotCalm s.cur) : slotLegal s = true := by
  unfold slotLegal
  split
  case h_1 e => rw [e] at h; exact absurd rfl h.1
  case h_2 e => rw [e] at h; exact h.2 rfl
  case h_3 => rfl

theorem State.Calm.inv {s : State} (h : s.Calm) : s.Inv := (inv_iff s).2 ⟨h.sound, slotLegal_of_calm h.slot⟩

/-- The latches of the object in a legal slot are legal. -/
theorem latchLegal_of_slotLegal {s : State} {k : Kind} {n : Nat} {l : Latches} (h : slotLegal s = true)
    (hc : s.cur = some (.running k n l)) : LatchLegal k l := by
  rintro rfl
  unfold slotLegal at h
  rw [hc] at h
  exact h

theorem State.Sound.withCpu {s : State} (h : s.Sound) {r : Regs} (hr : LowKept s.regs r) (b : Bool) (c : Option Obj) :
    (s.withCpu r b c).Sound := ⟨hr h.fLow, ⟨h.form.memWf, h.form.memRam, h.form.cartWf⟩, h.dmaLock⟩

theorem State.Sound.setCur {s : State} (h : s.Sound) (c : Option Obj) : ({ s with cur := c } : State).Sound :=
  h.withCpu lowKept_refl s.ime c

theorem CpuFrame.sound {wf wi : Bool} {s t : State} (h : CpuFrame wf wi s t) (hs : s.Sound) : t.Sound where
  fLow := h.lowF hs.fLow
  form := h.form hs.form
  dmaLock := by rw [h.store.locks, h.store.step]; exact hs.dmaLock

/-! ### The end of an M-cycle -/

theorem timerStep_sound (r : TickResult) {s : State} (h : s.Sound) : (timerStep r s).Sound := by
  cases r with
  | stop => exact h
  | _ => exact ⟨h.fLow, ⟨h.form.memWf, h.form.memRam, h.form.cartWf⟩, h.dmaLock⟩

theorem envStep_sound {s : State} (h : s.Sound) : (envStep s).Sound where
  fLow := by rw [envStep_regs]; exact h.fLow
  form := envStep_form h.form
  dmaLock := by rw [(envStep_frame s).dmaLock, (envStep_frame s).dma]; exact h.dmaLock

theorem dmaTick_sound {s : State} (h : s.Sound) : (dmaTick s).Sound where
  fLow := by rw [dmaTick_regs]; exact h.fLow
  form := dmaTick_form h.form
  dmaLock := dmaTick_lock h.dmaLock

theorem endCycle_sound (r : TickResult) {s : State} (h : s.Sound) : (endCycle r s).Sound := by
  obtain ⟨c, -, e⟩ := endCycle_eq r s
  have hd : (dmaTick (envStep (timerStep r s))).Sound := dmaTick_sound (envStep_sound (timerStep_sound r h))
  have hr : (dmaTick (envStep (timerStep r s))).regs = s.regs := by
    rw [dmaTick_regs, envStep_regs]
    cases r <;> rfl
  rw [e]
  exact hd.withCpu (by rw [hr]; exact lowKept_refl) s.ime c

theorem endCycle_calm (r : TickResult) {s : State} (h : s.Calm) : (endCycle r s).Calm := by
  refine ⟨endCycle_sound r h.sound, ?_⟩
  rcases endCycle_cur_any r s with e | e <;> rw [e]
  · exact h.slot
  · trivial

/-! ### The slot after a tick -/

theorem retire_calm {r : TickResult} (hr : r ≠ .stop) (n : Nat) (l : Latches) {s : State} (h : s.Calm) :
    (retire r n l s).Calm := by
  cases r with
  | running => exact h
  | finished => exact ⟨h.sound.setCur none, trivial⟩
  | halt => exact ⟨h.sound.setCur _, nofun, nofun⟩
  | stop => exact absurd rfl hr

theorem slotAfter_calm {r : Tick} (hr : r.result ≠ .stop) (n : Nat) {keep : Option Obj} (hk : slotCalm keep)
    (h : r.state.Calm) : (slotAfter keep r n).Calm := by
  unfold slotAfter
  split
  · exact ⟨h.sound.setCur keep, hk⟩
  all_goals exact retire_calm hr n _ h

theorem CpuFrame.calm {wf wi : Bool} {s t : State} (h : CpuFrame wf wi s t) (hs : s.Calm) : t.Calm :=
  ⟨h.sound hs.sound, by rw [h.cur]; exact hs.slot⟩

/-! ### An object's M-cycles and its run -/

theorem cycle_calm {t : Ticks} {n : Nat} {l : Latches} {s : State} {wf wi : Bool}
    (ht : CpuFrame wf wi s (t n l s).state) (hr : (t n l s).result ≠ .stop) (h : s.Calm) : (cycle t n l s).state.Calm :=
  endCycle_calm _ (retire_calm hr n _ (ht.calm h))

theorem runTicks_calm {k : Kind} (hk : k ≠ .stop) (fuel n : Nat) {l : Latches} (hl : LatchLegal k l) {s : State}
    (h : s.Calm) : (runTicks fuel (kindTicks k) n l s).Calm :=
  runTicks_keeps (L := LatchLegal k) (P := State.Calm) (fun n _ s hl => kindTicks_latches k n hl s)
    (fun n _ s hl hs => cycle_calm (kindTicks_object hk n hl s).frame (kindTicks_object hk n hl s).noStop hs) fuel n hl h

theorem runTicks_service_calm (t : Irq) (fuel n : Nat) {s : State} (h : s.Calm) :
    (runTicks fuel (serviceTicks t) n .fresh s).Calm :=
  runTicks_keeps (L := fun _ => True) (P := State.Calm) (fun _ _ _ _ => trivial)
    (fun n l s _ hs => cycle_calm (serviceTicks_law t n l s).frame (serviceTicks_law t n l s).noStop hs) fuel n trivial h

theorem objectCycle_calm {k : Kind} (hk : k ≠ .stop) (n : Nat) {l : Latches} (hl : LatchLegal k l) {s : State}
    (h : s.Calm) : (objectCycle k n l s).Calm := by
  have ht := kindTicks_object hk n hl s
  exact endCycle_calm _ (slotAfter_calm ht.noStop n ⟨hk, ht.latches⟩ (ht.frame.calm h))

theorem serviceCycle_calm (t : Irq) (n : Nat) {s : State} (h : s.Calm) : (serviceCycle t n s).Calm := by
  have ht := serviceTicks_law t n .fresh s
  exact endCycle_calm _ (slotAfter_calm ht.noStop n trivial (ht.frame.calm h))

/-! ### The M-cycle of STOP -/

theorem region_oam {a : Word} (lo : 0xFE00 ≤ a.toNat) (hi : a.toNat ≤ 0xFE9F) : region a = .oam := by
  unfold region
  dsimp only
  rw [if_neg (by omega), if_neg (by omega), if_neg (by omega), if_neg (by omega), if_neg (by omega), if_pos (by omega)]

theorem poke_timer (s : State) {a : Word} (v : Byte) (h : region a ≠ .io) : (poke s a v).timer = s.timer := by
  unfold poke
  cases ha : region a with
  | io => exact absurd ha h
  | _ => rfl

theorem busWrite_timer (s : State) {a : Word} (v : Byte) (src : Source) (h : region a ≠ .io) :
    (busWrite s a v src).timer = s.timer := by
  unfold busWrite; split
  · rfl
  · exact poke_timer s v h

/-- A DMA tick writes to OAM, never to the timer's registers (60_exceptions.md R345). -/
theorem dmaTick_timer (s : State) : (dmaTick s).timer = s.timer := by
  have hc : (dmaCopy s (s.dma.step.val - 1)).timer = s.timer := by
    refine busWrite_timer s _ _ ?_
    have hlt := s.dma.step.isLt
    have ha : ((0xFE00 : Word) + BitVec.ofNat 16 (s.dma.step.val - 1)).toNat = 0xFE00 + (s.dma.step.val - 1) := by
      rw [BitVec.toNat_add, BitVec.toNat_ofNat, show BitVec.toNat (0xFE00 : Word) = 0xFE00 from rfl]; omega
    rw [region_oam (by omega) (by omega)]
    nofun
  unfold dmaTick
  split
  · split <;> rfl
  · dsimp only
    split <;> exact hc

/-- With the result STOP the timer stands still (40_execution_cycle.md R142). -/
theorem endCycle_stop_timer (s : State) : (endCycle .stop s).timer = s.timer := by
  obtain ⟨c, -, e⟩ := endCycle_eq .stop s
  rw [e]
  exact (dmaTick_timer _).trans (envStep_frame _).timer

/-- A STOP's first M-cycle resets the divider counter, and a later one finds it at 0 (60_exceptions.md R342). -/
theorem stopCycle_inv {n : Nat} (l : Latches) {s : State} (h : s.Sound) (hn : n ≠ 0 → s.timer.sysctr = 0) :
    (cycle stopTicks n l s).state.Inv := by
  have hctr : (stopTicks n l s).state.timer.sysctr = 0 := by
    cases n with
    | zero => rfl
    | succ n => exact hn (Nat.succ_ne_zero n)
  have hs : (retire .stop n (stopTicks n l s).latches (stopTicks n l s).state).Sound :=
    ((stopTicks_frame n l s).sound h).setCur _
  have e : (cycle stopTicks n l s).state =
      endCycle .stop (retire .stop n (stopTicks n l s).latches (stopTicks n l s).state) := by cases n <;> rfl
  rw [e]
  refine (inv_iff _).2 ⟨endCycle_sound .stop hs, ?_⟩
  rcases endCycle_cur_any .stop (retire .stop n (stopTicks n l s).latches (stopTicks n l s).state) with hc | hc
  · unfold slotLegal
    rw [hc, endCycle_stop_timer]
    exact beq_iff_eq.2 hctr
  · exact slotLegal_of_calm (by rw [hc]; trivial)

theorem runTicks_stop (n : Nat) (l : Latches) (s : State) :
    runTicks maxCycles stopTicks n l s = (cycle stopTicks n l s).state := by cases n <;> rfl

theorem objectCycle_stop (n : Nat) (l : Latches) (s : State) :
    objectCycle .stop n l s = (cycle stopTicks n l s).state := by cases n <;> rfl

/-! ### The fetch -/

theorem fetchImmediates_calm (e : Entry) {s : State} (h : s.Calm) : (fetchImmediates e s).state.Calm := by
  cases e with
  | op16 mk => exact endCycle_calm .running h
  | _ => exact h

theorem fetchInstr_calm {s : State} (h : s.Calm) : (fetchInstr s).state.Calm := by
  unfold fetchInstr
  split
  · exact fetchImmediates_calm _ h
  · exact fetchImmediates_calm _ h
  · exact fetchImmediates_calm _ (endCycle_calm .running h)
  · exact fetchImmediates_calm _ (endCycle_calm .running h)

theorem resumeFetch_calm (op : Byte) (lo : Option Byte) {s : State} (h : s.Calm) : (resumeFetch op lo s).state.Calm := by
  unfold resumeFetch
  split
  · exact fetchImmediates_calm _ h
  · exact h
  · exact fetchImmediates_calm _ h

theorem fetchCycle_calm (op : Byte) (lo : Option Byte) {s : State} (h : s.Calm) : (fetchCycle op lo s).Calm :=
  endCycle_calm .running ⟨h.sound.setCur _, trivial⟩

/-- The instructions of an entry of the unprefixed map read the immediate bytes of its format (R100). -/
def immediatesOfFormat : Entry → Prop
  | .op i => immediateBytes i.kind = 0
  | .op8 mk => ∀ n, immediateBytes (mk n).kind = 1
  | .op16 mk => ∀ nn, immediateBytes (mk nn).kind = 2
  | .cbPrefix => immediateBytes .prefixCb = 0

theorem immediatesOfFormat_opcodeRow (k : Nat) : ∀ e ∈ opcodeRow k, immediatesOfFormat e := by
  unfold opcodeRow
  split
  all_goals
    simp only [opcodeRow0, opcodeRow1, opcodeRow2, opcodeRow3, opcodeRow4, opcodeRow5, opcodeRow6, opcodeRow7, opcodeRow8,
      opcodeRow9, opcodeRowA, opcodeRowB, opcodeRowC, opcodeRowD, opcodeRowE, opcodeRowF, List.forall_mem_cons,
      List.not_mem_nil, false_imp_iff, implies_true, and_true, immediatesOfFormat]
    and_intros
    all_goals intros; rfl

theorem immediatesOfFormat_decodeOpcode (op : Byte) : immediatesOfFormat (decodeOpcode op) := by
  unfold decodeOpcode
  rw [List.getD_eq_getElem?_getD]
  cases e : (opcodeRow (op.toNat / 16))[op.toNat % 16]? with
  | none => rfl
  | some x => exact immediatesOfFormat_opcodeRow _ x (List.mem_of_getElem? e)

theorem ne_stop_of_immediateBytes {k : Kind} {n : Nat} (h : immediateBytes k = n + 1) : k ≠ .stop := by
  rintro rfl; exact nomatch h

/-! ### Steps and system steps -/

theorem acceptIrq_calm (t : Irq) {s : State} (h : s.Calm) : (acceptIrq t s).Calm :=
  ⟨⟨h.sound.fLow, ⟨h.sound.form.memWf, h.sound.form.memRam, h.sound.form.cartWf⟩, h.sound.dmaLock⟩, h.slot⟩

/-- With no STOP in the slot, the invariant is what every M-cycle carries. -/
theorem State.Inv.calm {s : State} (h : s.Inv) (hc : ∀ n l, s.cur ≠ some (.running .stop n l)) : s.Calm := by
  refine ⟨((inv_iff s).1 h).1, ?_⟩
  cases e : s.cur with
  | none => trivial
  | some o =>
    cases o with
    | running k n l => exact ⟨by rintro rfl; exact hc n l e, latchLegal_of_slotLegal h.slot e⟩
    | _ => trivial

theorem State.Inv.calm_of_running {s : State} (h : s.Inv) {k : Kind} {n : Nat} {l : Latches}
    (hc : s.cur = some (.running k n l)) (hk : k ≠ .stop) : s.Calm :=
  h.calm fun _ _ e => hk (by rw [hc] at e; cases e; rfl)

/-- A STOP in the slot has the divider counter at 0 (60_exceptions.md R342). -/
theorem State.Inv.sysctr_of_stop {s : State} (h : s.Inv) {n : Nat} {l : Latches}
    (hc : s.cur = some (.running .stop n l)) : s.timer.sysctr = 0 := by
  have hs := h.slot
  unfold slotLegal at hs
  rw [hc] at hs
  exact beq_iff_eq.1 hs

/-- The instruction that starts in a calm state ends in a state with the invariant. -/
theorem exec_inv {i : Instr} {s t : State} (hs : s.Calm) (h : exec i s = .next t) : t.Inv := by
  rw [exec_next h]
  by_cases hk : i.kind = .stop
  · rw [hk]
    show (runTicks maxCycles stopTicks 0 .fresh s).Inv
    rw [runTicks_stop]
    exact stopCycle_inv .fresh hs.sound (absurd rfl)
  · exact (runTicks_calm hk _ _ (latchLegal_fresh _) hs).inv

theorem firstCycle_next {k : Kind} {n : Nat} {s t : State} (h : firstCycle k n s = .next t) :
    t = objectCycle k n .fresh s := by
  unfold firstCycle at h
  split at h
  · split at h
    · exact nomatch h
    · exact (Host.Outcome.next.inj h).symm
  · exact (Host.Outcome.next.inj h).symm

/-- The M-cycle that reads an instruction's last byte; of STOP that byte is the first. -/
theorem firstCycle_inv {k : Kind} {n : Nat} {s t : State} (hs : s.Calm) (hk : n = 0 ∨ k ≠ .stop)
    (h : firstCycle k n s = .next t) : t.Inv := by
  rw [firstCycle_next h]
  by_cases hstop : k = .stop
  · have hn : n = 0 := hk.resolve_right (not_not.2 hstop)
    rw [hstop, objectCycle_stop]
    exact stopCycle_inv .fresh hs.sound (absurd hn)
  · exact (objectCycle_calm hstop n (latchLegal_fresh k) hs).inv

theorem fetchStep_inv {s t : State} (hs : s.Calm) (h : fetchStep s = .next t) : t.Inv := by
  unfold fetchStep at h
  dsimp only at h
  split at h
  · exact firstCycle_inv hs (.inl rfl) h
  · exact firstCycle_inv hs (.inl rfl) h
  · rw [← Host.Outcome.next.inj h]; exact (fetchCycle_calm _ none hs).inv
  · rw [← Host.Outcome.next.inj h]; exact (fetchCycle_calm _ none hs).inv

theorem immediateStep_inv {op : Byte} {lo : Option Byte} {s t : State} (hs : s.Calm)
    (h : immediateStep op lo s = .next t) : t.Inv := by
  have hop := immediatesOfFormat_decodeOpcode op
  unfold immediateStep at h
  split at h
  case h_1 => rw [← Host.Outcome.next.inj h]; exact (fetchCycle_calm op _ hs).inv
  case h_2 e => rw [e] at hop; exact firstCycle_inv hs (.inr (ne_stop_of_immediateBytes (hop _))) h
  case h_3 e => rw [e] at hop; exact firstCycle_inv hs (.inr (ne_stop_of_immediateBytes (hop _))) h
  all_goals exact firstCycle_inv hs (.inl rfl) h

/-- The step of an object in the slot. -/
theorem runTicks_inv {k : Kind} {n : Nat} {l : Latches} {s : State} (h : s.Inv)
    (hc : s.cur = some (.running k n l)) : (runTicks maxCycles (kindTicks k) n l s).Inv := by
  by_cases hk : k = .stop
  · subst hk
    show (runTicks maxCycles stopTicks n l s).Inv
    rw [runTicks_stop]
    exact stopCycle_inv l ((inv_iff s).1 h).1 fun _ => h.sysctr_of_stop hc
  · exact (runTicks_calm hk _ n (latchLegal_of_slotLegal h.slot hc) (h.calm_of_running hc hk)).inv

/-- The M-cycle of an object in the slot. -/
theorem objectCycle_inv {k : Kind} {n : Nat} {l : Latches} {s : State} (h : s.Inv)
    (hc : s.cur = some (.running k n l)) : (objectCycle k n l s).Inv := by
  by_cases hk : k = .stop
  · subst hk
    rw [objectCycle_stop]
    exact stopCycle_inv l ((inv_iff s).1 h).1 fun _ => h.sysctr_of_stop hc
  · exact (objectCycle_calm hk n (latchLegal_of_slotLegal h.slot hc) (h.calm_of_running hc hk)).inv

theorem step_inv {s t : State} (h : s.Inv) (e : step s = .next t) : t.Inv := by
  unfold step at e
  split at e
  case h_1 hc =>
    have hs : s.Calm := h.calm (by rw [hc]; exact nofun)
    split at e
    · rw [← Host.Outcome.next.inj e]
      exact (runTicks_service_calm _ maxCycles 0 (acceptIrq_calm _ hs)).inv
    · exact exec_inv (fetchInstr_calm hs) e
  case h_2 hc => exact exec_inv (resumeFetch_calm _ _ (h.calm (by rw [hc]; exact nofun))) e
  case h_3 hc => rw [← Host.Outcome.next.inj e]; exact runTicks_inv h hc
  case h_4 hc =>
    rw [← Host.Outcome.next.inj e]
    exact (runTicks_service_calm _ maxCycles _ (h.calm (by rw [hc]; exact nofun))).inv

theorem systemStep_inv {s t : State} (h : s.Inv) (e : systemStep s = .next t) : t.Inv := by
  unfold systemStep at e
  split at e
  case h_1 hc =>
    have hs : s.Calm := h.calm (by rw [hc]; exact nofun)
    split at e
    · rw [← Host.Outcome.next.inj e]
      exact (serviceCycle_calm _ 0 (acceptIrq_calm _ hs)).inv
    · exact fetchStep_inv hs e
  case h_2 hc => exact immediateStep_inv (h.calm (by rw [hc]; exact nofun)) e
  case h_3 hc => rw [← Host.Outcome.next.inj e]; exact objectCycle_inv h hc
  case h_4 hc =>
    rw [← Host.Outcome.next.inj e]
    exact (serviceCycle_calm _ _ (h.calm (by rw [hc]; exact nofun))).inv

end Sys2Proof.Machine

section
open Sys2Proof Sys2Proof.Machine

/-- Settles O11: the invariant is carried through each M-cycle, STOP's apart, with a slot that is legal whatever the divider
counter; STOP's own M-cycle has the counter at 0 and lets the timer stand still. -/
theorem stepKeepsTheInvariant : Obligations.StepKeepsTheInvariant := by
  intro s t h e
  rcases e with e | e
  · exact step_inv h e
  · exact systemStep_inv h e

end
end

section
/-! Power-on (10_state.md R50 to R52), the pairs (R21, R22) and the flag setters (R23). -/

namespace Sys2Proof.Machine

/-! ### Power-on -/

theorem powerOn_inv {p : Config.ResetProfile} {ram : Memory} {cart : Cart} (fault : Bool) (hp : p.legal = true)
    (hw : ram.wf = true) (hr : ram.onlyRam = true) (hc : cart.wf = true) : (State.powerOn p ram cart fault).Inv :=
  ⟨beq_iff_eq.1 hp, hw, hr, hc, rfl, rfl⟩

theorem region_io {a : Word} (lo : 0xFF00 ≤ a.toNat) (hi : a.toNat ≤ 0xFF7F) : region a = .io := by
  unfold region
  dsimp only
  rw [if_neg (by omega), if_neg (by omega), if_neg (by omega), if_neg (by omega), if_neg (by omega), if_neg (by omega),
    if_neg (by omega), if_pos (by omega)]

/-- No lock covers the I/O region (20_memory.md R67 to R69). -/
theorem cpuRead_io (s : State) {a : Word} (h : region a = .io) : cpuRead s a = ioRead s a := by
  unfold cpuRead busRead peek
  rw [h]
  simp [blocked, dmaLockCovers]

/-- The registers of 0xFF40 to 0xFF49 are the nine PPU bytes and the DMA trigger (10_state.md R35). -/
theorem ioReg_ppu_or_dma {a : Word} (lo : 0xFF40 ≤ a.toNat) (hi : a.toNat ≤ 0xFF49) :
    (∃ r, ioReg a = .ppu r) ∨ ioReg a = .dma := by
  unfold ioReg
  generalize a.toNat = n at lo hi ⊢
  rcases (by omega : n ≤ 0xFF45 ∨ n = 0xFF46 ∨ 0xFF47 ≤ n) with h | rfl | h
  · interval_cases n <;> exact .inl ⟨_, rfl⟩
  · exact .inr rfl
  · interval_cases n <;> exact .inl ⟨_, rfl⟩

theorem ioRead_powerOn_of_ppu_or_dma {p : Config.ResetProfile} {ram : Memory} {cart : Cart} {fault : Bool} {a : Word}
    (h : (∃ r, ioReg a = .ppu r) ∨ ioReg a = .dma) : ioRead (State.powerOn p ram cart fault) a = 0 := by
  unfold ioRead
  rcases h with ⟨r, h⟩ | h <;> rw [h]
  · cases r <;> rfl
  · rfl

/-! ### Flags -/

/-- One bit of F, written as every setter writes it (10_state.md R23). -/
theorem getLsbD_writeBit (f : Byte) (b : Bool) {i : Nat} (hi : i < 8) (j : Nat) :
    (if b then f ||| BitVec.twoPow 8 i else f &&& ~~~BitVec.twoPow 8 i).getLsbD j = if j = i then b else f.getLsbD j := by
  by_cases h8 : j < 8
  · by_cases hj : j = i
    · subst hj
      cases b <;> simp [hi]
    · cases b
      · simp [hj, h8]
      · simp [hj, Ne.symm hj]
  · have hj : j ≠ i := by omega
    rw [if_neg hj, BitVec.getLsbD_of_ge _ _ (by omega), BitVec.getLsbD_of_ge _ _ (by omega)]

theorem getLsbD_setZf (r : Regs) (b : Bool) (j : Nat) : (r.setZf b).f.getLsbD j = if j = 7 then b else r.f.getLsbD j :=
  getLsbD_writeBit r.f b (by decide : 7 < 8) j
theorem getLsbD_setNf (r : Regs) (b : Bool) (j : Nat) : (r.setNf b).f.getLsbD j = if j = 6 then b else r.f.getLsbD j :=
  getLsbD_writeBit r.f b (by decide : 6 < 8) j
theorem getLsbD_setHf (r : Regs) (b : Bool) (j : Nat) : (r.setHf b).f.getLsbD j = if j = 5 then b else r.f.getLsbD j :=
  getLsbD_writeBit r.f b (by decide : 5 < 8) j
theorem getLsbD_setCf (r : Regs) (b : Bool) (j : Nat) : (r.setCf b).f.getLsbD j = if j = 4 then b else r.f.getLsbD j :=
  getLsbD_writeBit r.f b (by decide : 4 < 8) j

/-! ### The write of AF -/

/-- A write of AF drops the low nibble of its low byte (10_state.md R22). -/
theorem af_setAf (r : Regs) (v : Word) : (r.setAf v).af = v &&& 0xFFF0 := by
  calc joinBytes (hiByte v) (loByte v &&& 0xF0)
      = joinBytes (hiByte v &&& 0xFF) (loByte v &&& 0xF0) := by
        rw [show (0xFF : Byte) = BitVec.allOnes 8 from rfl, BitVec.and_allOnes]
    _ = joinBytes (hiByte v) (loByte v) &&& joinBytes 0xFF 0xF0 := (BitVec.and_append ..).symm
    _ = v &&& 0xFFF0 := by rw [joinBytes_hiByte_loByte]; rfl

end Sys2Proof.Machine

section
open Sys2Proof Sys2Proof.Machine

/-- Settles O12: each clause of the invariant is a hypothesis on the launch or the value R51 gives. -/
theorem powerOnMeetsTheInvariant : Obligations.PowerOnMeetsTheInvariant :=
  ⟨fun _ _ _ fault hp hw hr hc => powerOn_inv fault hp hw hr hc, powerOn_inv _ rfl rfl rfl rfl⟩

/-- Settles O13: the fields are those of `State.powerOn`, and the I/O bytes are read through the bus, which no lock shuts. -/
theorem powerOnState : Obligations.PowerOnState := by
  intro p ram cart fault s
  refine ⟨rfl, rfl, rfl, rfl, rfl, rfl, rfl, rfl, fun a ha => ?_⟩
  rcases ha with rfl | rfl | ⟨lo, hi⟩
  · rfl
  · rfl
  · rw [cpuRead_io s (region_io (by omega) (by omega))]
    exact ioRead_powerOn_of_ppu_or_dma (ioReg_ppu_or_dma lo hi)

/-- Settles O14: a pair is its two bytes, and the bytes of a word are its two halves. -/
theorem pairsShareStorageWithTheirHalves : Obligations.PairsShareStorageWithTheirHalves := by
  intro r v
  refine ⟨⟨rfl, rfl, rfl, rfl⟩, ⟨?_, bc_setBc r v⟩, ⟨?_, de_setDe r v⟩, ⟨?_, hl_setHl r v⟩, ⟨?_, af_setAf r v⟩⟩ <;>
    rw [← hiByte_eq_extract, ← loByte_eq_extract] <;> rfl

/-- Settles O15: every setter writes one bit of F, and the getters read that bit. -/
theorem flagSettersTouchOneBit : Obligations.FlagSettersTouchOneBit := by
  intro r b
  refine ⟨⟨?_, rfl, fun j hj => ?_⟩, ⟨?_, rfl, fun j hj => ?_⟩, ⟨?_, rfl, fun j hj => ?_⟩, ⟨?_, rfl, fun j hj => ?_⟩⟩
  · exact getLsbD_setZf r b 7
  · rw [getLsbD_setZf, if_neg hj]
  · exact getLsbD_setNf r b 6
  · rw [getLsbD_setNf, if_neg hj]
  · exact getLsbD_setHf r b 5
  · rw [getLsbD_setHf, if_neg hj]
  · exact getLsbD_setCf r b 4
  · rw [getLsbD_setCf, if_neg hj]

end
end

section
/-! What the locks leave open (20_memory.md R67 to R69), what answers at the I/O addresses (R72, R73), and the cartridge
behind the bus (R75). -/

namespace Sys2Proof.Machine

/-! ### The locks -/

theorem dmaLockCovers_iff (g : Region) : dmaLockCovers g = true ↔ g ∈ [.rom, .vram, .eram, .wram, .oam] := by
  cases g <;> decide

/-- The three lock tests, each with its region and the sources it lets through (20_memory.md R67 to R69). -/
theorem blocked_iff (l : Locks) (g : Region) (src : Source) : blocked l g src = true ↔
    (l.dma = true ∧ src ≠ .dma ∧ g ∈ [.rom, .vram, .eram, .wram, .oam]) ∨
      (l.vram = true ∧ src ≠ .ppu ∧ g = .vram) ∨ (l.oam = true ∧ src = .cpu ∧ g = .oam) := by
  rw [← dmaLockCovers_iff]
  simp only [blocked, Bool.or_eq_true, Bool.and_eq_true, bne_iff_ne, beq_iff_eq]
  tauto

/-- A region the DMA lock does not cover is covered by no lock. -/
theorem blocked_of_not_covered {g : Region} (h : dmaLockCovers g = false) (l : Locks) (src : Source) :
    blocked l g src = false := by
  revert h
  cases g <;> simp [blocked, dmaLockCovers]

/-- The DMA lock alone shuts the cartridge. -/
theorem blocked_cart {l : Locks} (h : l.dma = false) {g : Region} (hg : g = .rom ∨ g = .eram) (src : Source) :
    blocked l g src = false := by
  rcases hg with rfl | rfl <;> simp [blocked, h]

section
variable {s : State} {a : Word} {src : Source}

theorem busRead_shut (h : blocked s.locks (region a) src = true) : busRead s a src = 0xFF := if_pos h
theorem busWrite_shut (v : Byte) (h : blocked s.locks (region a) src = true) : busWrite s a v src = s := if_pos h

theorem busRead_open (h : blocked s.locks (region a) src = false) : busRead s a src = peek s a :=
  if_neg (by rw [h]; nofun)
theorem busWrite_open (v : Byte) (h : blocked s.locks (region a) src = false) : busWrite s a v src = poke s a v :=
  if_neg (by rw [h]; nofun)

end

/-! ### RAM behind an open lock -/

/-- A CPU write that no lock blocks is read back: a write changes no lock (20_memory.md R79). -/
theorem cpuRead_cpuWrite_same {s : State} {a : Word} (v : Byte) (hr : isRam (region a) = true)
    (hb : blocked s.locks (region a) .cpu = false) : cpuRead (cpuWrite s a v) a = v := by
  unfold cpuRead cpuWrite
  rw [busWrite_open v hb, busRead_open (by rw [(poke_frame s a v).locks]; exact hb)]
  exact peek_poke_same s a v hr

theorem cpuRead_cpuWrite_other (s : State) {a b : Word} (v : Byte) (hne : b ≠ a)
    (hc : (region a = .rom ∨ region a = .eram) → ¬(region b = .rom ∨ region b = .eram)) :
    cpuRead (cpuWrite s a v) b = cpuRead s b := by
  unfold cpuRead cpuWrite busRead
  rw [(busWrite_frame s a v .cpu).locks, peek_busWrite_other s v .cpu hne hc]

theorem not_cart_of_isRam {g : Region} (h : isRam g = true) : ¬(g = .rom ∨ g = .eram) := by
  rintro (rfl | rfl) <;> exact absurd h nofun

/-! ### The unmapped ranges -/

theorem peek_unmapped (s : State) {a : Word} (h : region a = .unmapped) : peek s a = 0x00 := by
  unfold peek; rw [h]
theorem poke_unmapped (s : State) {a : Word} (v : Byte) (h : region a = .unmapped) : poke s a v = s := by
  unfold poke; rw [h]

/-! ### The I/O region -/

/-- No lock covers the I/O region. -/
theorem cpuWrite_io (s : State) {a : Word} (v : Byte) (h : region a = .io) : cpuWrite s a v = ioWrite s a v := by
  refine (busWrite_open v (blocked_of_not_covered (by rw [h]; rfl) _ _)).trans ?_
  unfold poke
  rw [h]

/-- The addresses without a name of their own are in the I/O region and have no register (20_memory.md R73). -/
theorem unassigned_io {a : Word} (h : a = 0xFF03 ∨ (0xFF08 ≤ a.toNat ∧ a.toNat ≤ 0xFF0E) ∨
    (0xFF10 ≤ a.toNat ∧ a.toNat ≤ 0xFF3F) ∨ (0xFF4A ≤ a.toNat ∧ a.toNat ≤ 0xFF7F)) :
    region a = .io ∧ ioReg a = .unassigned := by
  constructor
  · rcases h with rfl | h | h | h
    · rfl
    all_goals exact region_io (by omega) (by omega)
  · by_contra hne
    have e := ioReg_addr a hne
    generalize ioReg a = r at hne e
    subst e
    revert h
    cases r with
    | unassigned => exact absurd rfl hne
    | ppu r => cases r <;> decide
    | _ => decide

theorem ioRead_joyp (s : State) : ioRead s 0xFF00 = (3 : BitVec 2) ++ s.sel ++ s.joypNibble := by
  have key : ∀ (sel : BitVec 2) (n : BitVec 4),
      (0xC0 : Byte) ||| (sel.setWidth 8) <<< 4 ||| n.setWidth 8 = (3 : BitVec 2) ++ sel ++ n := by decide
  exact key s.sel s.joypNibble

theorem ioRead_tac (s : State) : ioRead s 0xFF07 = (0x1F : BitVec 5) ++ s.timer.tac := by
  have key : ∀ t : BitVec 3, (0xF8 : Byte) ||| t.setWidth 8 = (0x1F : BitVec 5) ++ t := by decide
  exact key s.timer.tac

theorem ioRead_iflag (s : State) : ioRead s 0xFF0F = (7 : BitVec 3) ++ s.iflag := by
  have key : ∀ f : BitVec 5, (0xE0 : Byte) ||| f.setWidth 8 = (7 : BitVec 3) ++ f := by decide
  exact key s.iflag

/-- DIV is the counter in units of 64 M-cycles (60_exceptions.md R338). -/
theorem Timer.div_toNat (t : Timer) : t.div.toNat = t.sysctr.toNat / 64 := by
  have h := t.sysctr.isLt
  rw [Timer.div, BitVec.extractLsb'_toNat, Nat.shiftRight_eq_div_pow]
  omega

/-- SC with bit 7 set emits SB (20_memory.md R85). -/
theorem writeSc_eq (s : State) (v : Byte) : writeSc s v =
    { s with sc := v, serialOut := if 128 ≤ v.toNat then s.serialOut ++ [s.sb] else s.serialOut } := by
  have hbit : v.getLsbD 7 = decide (128 ≤ v.toNat) := BitVec.msb_eq_decide v
  unfold writeSc
  rw [hbit]
  by_cases h : 128 ≤ v.toNat <;> simp [h]

/-! ### The cartridge -/

theorem peek_cart (s : State) {a : Word} (h : region a = .rom ∨ region a = .eram) : peek s a = s.cart.read a := by
  unfold peek
  rcases h with h | h <;> rw [h]
theorem poke_at_cart (s : State) {a : Word} (v : Byte) (h : region a = .rom ∨ region a = .eram) :
    poke s a v = { s with cart := s.cart.write a v } := by
  unfold poke
  rcases h with h | h <;> rw [h]

end Sys2Proof.Machine

section
open Sys2Proof Sys2Proof.Machine

/-- Settles O44, row by row of R61. -/
theorem regionsOfTheAddressSpace : Obligations.RegionsOfTheAddressSpace := by
  intro a
  have hlt := a.isLt
  have hie : a = 0xFFFF ↔ a.toNat = 0xFFFF := BitVec.toNat_inj.symm
  rw [hie]
  unfold region
  generalize a.toNat = n at hlt ⊢
  dsimp only
  split_ifs <;> simp <;> omega

/-- Settles O45: the condition of the statement is the lock test of a bus access. -/
theorem locksBlockReadsAndWrites : Obligations.LocksBlockReadsAndWrites := by
  intro s a v src shut hshut
  have h : shut ↔ blocked s.locks (region a) src = true := hshut.trans (blocked_iff ..).symm
  rw [h]
  refine ⟨fun hb => ⟨busRead_shut hb, busWrite_shut v hb⟩, fun hb => ?_⟩
  have hb := Bool.eq_false_iff.2 hb
  exact ⟨busRead_open hb, busWrite_open v hb⟩

/-- Settles O46: at the address itself the byte is read back, and a RAM store touches no other byte. -/
theorem ramReadsWhatWasWritten : Obligations.RamReadsWhatWasWritten := by
  intro s a b v hr hb
  by_cases hba : b = a
  · subst hba
    rw [if_pos rfl]
    exact cpuRead_cpuWrite_same v hr hb
  · rw [if_neg hba]
    exact cpuRead_cpuWrite_other s v hba fun hc => absurd hc (not_cart_of_isRam hr)

/-- Settles O47: no lock covers IE or the unmapped ranges. -/
theorem ieAndUnmappedAnswerUnderAnyLock : Obligations.IeAndUnmappedAnswerUnderAnyLock := by
  intro s a v src
  have hie : blocked s.locks (region 0xFFFF) src = false := blocked_of_not_covered rfl _ _
  refine ⟨⟨busRead_open hie, busWrite_open v hie⟩, fun h => ?_⟩
  have hu : blocked s.locks (region a) src = false := blocked_of_not_covered (by rw [h]; rfl) _ _
  exact ⟨(busRead_open hu).trans (peek_unmapped s h), (busWrite_open v hu).trans (poke_unmapped s v h)⟩

/-- Settles O48: a read of the I/O region passes every lock, and each address answers with its register. -/
theorem ioReads : Obligations.IoReads := by
  intro s
  refine ⟨?_, cpuRead_io s rfl, cpuRead_io s rfl, ?_, cpuRead_io s rfl, cpuRead_io s rfl, ?_, ?_, cpuRead_io s rfl,
    cpuRead_io s rfl, cpuRead_io s rfl, cpuRead_io s rfl, cpuRead_io s rfl, cpuRead_io s rfl, cpuRead_io s rfl,
    cpuRead_io s rfl, cpuRead_io s rfl, cpuRead_io s rfl, fun a h => ?_⟩
  · exact (cpuRead_io s rfl).trans (ioRead_joyp s)
  · rw [cpuRead_io s rfl]
    exact s.timer.div_toNat
  · exact (cpuRead_io s rfl).trans (ioRead_tac s)
  · exact (cpuRead_io s rfl).trans (ioRead_iflag s)
  · obtain ⟨hio, hreg⟩ := unassigned_io h
    refine ⟨?_, fun v => ?_⟩
    · rw [cpuRead_io s hio]; unfold ioRead; rw [hreg]
    · rw [cpuWrite_io s v hio]; unfold ioWrite; rw [hreg]

/-- Settles O49: a write to the I/O region passes every lock, and each register stores its bits. -/
theorem ioWrites : Obligations.IoWrites := by
  intro s v
  have low3 : v.setWidth 3 = v.extractLsb' 0 3 := BitVec.setWidth_eq_extractLsb' (by decide)
  have low5 : v.setWidth 5 = v.extractLsb' 0 5 := BitVec.setWidth_eq_extractLsb' (by decide)
  refine ⟨cpuWrite_io s v rfl, cpuWrite_io s v rfl, ?_, cpuWrite_io s v rfl, cpuWrite_io s v rfl, cpuWrite_io s v rfl,
    ?_, ?_, cpuWrite_io s v rfl, cpuWrite_io s v rfl, cpuWrite_io s v rfl, cpuWrite_io s v rfl, cpuWrite_io s v rfl,
    cpuWrite_io s v rfl, cpuWrite_io s v rfl, cpuWrite_io s v rfl, cpuWrite_io s v rfl, cpuWrite_io s v rfl⟩
  · exact (cpuWrite_io s v rfl).trans (writeSc_eq s v)
  · rw [← low3]; exact cpuWrite_io s v rfl
  · rw [← low5]; exact cpuWrite_io s v rfl

/-- Settles O50: with no DMA lock the cartridge answers, and the static one reads by its region and ignores writes. -/
theorem cartridgeContract : Obligations.CartridgeContract := by
  intro s rom a v hl
  have hread : Claims.isCart a → cpuRead s a = s.cart.read a := fun h =>
    (busRead_open (blocked_cart hl h .cpu)).trans (peek_cart s h)
  have hwrite : Claims.isCart a → cpuWrite s a v = { s with cart := s.cart.write a v } := fun h =>
    (busWrite_open v (blocked_cart hl h .cpu)).trans (poke_at_cart s v h)
  obtain ⟨hrom, -, heram, -⟩ := regionsOfTheAddressSpace a
  refine ⟨fun hc h => ?_, fun hc h => ?_, fun hc h => ?_, fun h => ⟨hread h, hwrite h⟩⟩
  · rw [hread (.inl h), hc]
    exact if_pos (hrom.1 h)
  · have := heram.1 h
    rw [hread (.inr h), hc]
    exact if_neg (by omega)
  · rw [hwrite h, hc]
    show { s with cart := Cart.staticRom rom } = s
    rw [← hc]

end
end

section
/-! What the run of an instruction's object leaves of the bytes behind the bus (20_memory.md R65, R74, R79): every tick
stores only at the addresses its object still has to store to, and in a quiet machine nothing acts besides but the timer. -/

namespace Sys2Proof.Machine

open Claims (isCart timerAddrs)

/-! ### The parts of the state no tick changes -/

/-- No tick of any object touches the locks, the DMA transfer, the timer's hidden bits or the environment's inputs,
whatever the latches hold. -/
theorem tableTicks_store (k : Kind) (n : Nat) (l : Latches) (s : State) : StoreFrame s (tableTicks k n l s).state := by
  by_cases hk : k = .stop
  · subst hk; exact (stopTicks_frame n l s).store
  · exact (tableTicks_law hk n l s).frame.store

/-- The ticks of every kind but the trampoline are those of its table. -/
theorem kindTicks_eq {k : Kind} (h : k ≠ .prefixCb) : kindTicks k = tableTicks k := by
  unfold kindTicks
  split
  · exact absurd rfl h
  · rfl

theorem prefixCbTicks_none {l : Latches} (h : l.sub = none) (n : Nat) (s : State) :
    kindTicks .prefixCb (n + 1) l s = .last s l := by
  simp only [kindTicks, prefixCbTicks, h]
theorem prefixCbTicks_some {l : Latches} {j : Kind} (h : l.sub = some j) (n : Nat) (s : State) :
    kindTicks .prefixCb (n + 1) l s = tableTicks j (n + 1) l s := by
  simp only [kindTicks, prefixCbTicks, h]

theorem kindTicks_store (k : Kind) (n : Nat) (l : Latches) (s : State) : StoreFrame s (kindTicks k n l s).state := by
  by_cases hk : k = .prefixCb
  · subst hk
    cases n with
    | zero => exact ⟨rfl, rfl, rfl, rfl, rfl, rfl, rfl, rfl⟩
    | succ n =>
      cases h : l.sub with
      | none => rw [prefixCbTicks_none h]; exact .refl s
      | some j => rw [prefixCbTicks_some h]; exact tableTicks_store j (n + 1) l s
  · rw [kindTicks_eq hk]; exact tableTicks_store k n l s

/-! ### Single changes of the state -/

/-- The timer's counter, TIMA and IF are read at the timer's three addresses only (20_memory.md R74). -/
theorem peek_timer (s : State) {t : Timer} {a : Word} (ha : a ∉ timerAddrs) (tma : t.tma = s.timer.tma)
    (tac : t.tac = s.timer.tac) (f : BitVec 5) : peek { s with timer := t, iflag := f } a = peek s a := by
  have hio : ioRead { s with timer := t, iflag := f } a = ioRead s a := by
    have addr := ioReg_addr a
    unfold ioRead
    cases hr : ioReg a <;> rw [hr] at addr
    case div | tima | iflag => exact absurd (by rw [addr nofun]; decide) ha
    case tma => exact tma
    case tac => exact congrArg (fun x : BitVec 3 => 0xF8 ||| x.setWidth 8) tac
    all_goals rfl
  unfold peek
  cases region a <;> first | exact hio | rfl

theorem Timer.tick_tma_tac (t : Timer) : t.tick.tma = t.tma ∧ t.tick.tac = t.tac := by
  unfold Timer.tick Timer.edge Timer.reload
  dsimp only
  split <;> split <;> exact ⟨rfl, rfl⟩

theorem ioWrite_dma (s : State) {a : Word} (v : Byte) (h : a ≠ 0xFF46) : (ioWrite s a v).dma = s.dma := by
  unfold ioWrite
  cases hr : ioReg a
  case dma => exact absurd ((ioReg_addr a (by rw [hr]; nofun)).trans (by rw [hr]; rfl)) h
  case sc => show (writeSc s v).dma = s.dma; rw [writeSc_eq]
  all_goals rfl

/-- A store reaches the DMA controller through its trigger at 0xFF46 only. -/
theorem cpuWrite_dma (s : State) {a : Word} (v : Byte) (h : a ≠ 0xFF46) : (cpuWrite s a v).dma = s.dma := by
  unfold cpuWrite busWrite
  split
  · rfl
  · unfold poke
    cases region a with
    | io => exact ioWrite_dma s v h
    | _ => rfl

theorem cpuWrite_cart (s : State) {a : Word} (v : Byte) (h : ¬isCart a) : (cpuWrite s a v).cart = s.cart := by
  unfold cpuWrite busWrite
  split
  · rfl
  · exact (poke_cart s a v).trans (if_neg h)

theorem envStep_nil {s : State} (h : s.env = []) : envStep s = s := by
  unfold envStep; rw [h]

/-! ### The bytes left by a part of a run -/

/-- The bytes behind the bus outside `A` and the timer's addresses are as before, the cartridge is if `A` spares it, and a
quiet machine stays quiet if `A` spares the DMA trigger. -/
structure ByteFrame (A : List Word) (s t : State) : Prop where
  bytes : ∀ a, a ∉ A → a ∉ timerAddrs → ¬isCart a → peek t a = peek s a
  cart : (∀ b, b ∈ A → ¬isCart b) → t.cart = s.cart
  quiet : 0xFF46 ∉ A → s.Quiet → t.Quiet

section
variable {A B : List Word} {s t u : State}

@[simp] theorem byteFrame_refl : ByteFrame A s s := ⟨fun _ _ _ _ => rfl, fun _ => rfl, fun _ => id⟩

theorem ByteFrame.trans (h : ByteFrame A s t) (k : ByteFrame A t u) : ByteFrame A s u :=
  ⟨fun a ha ht hc => (k.bytes a ha ht hc).trans (h.bytes a ha ht hc), fun hA => (k.cart hA).trans (h.cart hA),
   fun hA hs => k.quiet hA (h.quiet hA hs)⟩

theorem ByteFrame.mono (h : ByteFrame A s t) (hAB : A ⊆ B) : ByteFrame B s t :=
  ⟨fun a ha => h.bytes a fun hA => ha (hAB hA), fun hB => h.cart fun b hb => hB b (hAB hb),
   fun hB => h.quiet fun hA => hB (hAB hA)⟩

/-- The CPU's own parts are behind no address. -/
@[simp] theorem byteFrame_withCpu (r : Regs) (b : Bool) (c : Option Obj) :
    ByteFrame A s (t.withCpu r b c) ↔ ByteFrame A s t where
  mp h := ⟨h.bytes, h.cart, fun hA hs => ⟨(h.quiet hA hs).envDone, (h.quiet hA hs).dmaIdle, (h.quiet hA hs).noTrigger⟩⟩
  mpr h := ⟨h.bytes, h.cart, fun hA hs => ⟨(h.quiet hA hs).envDone, (h.quiet hA hs).dmaIdle, (h.quiet hA hs).noTrigger⟩⟩

@[simp] theorem byteFrame_setRegs (r : Regs) : ByteFrame A s (t.setRegs r) ↔ ByteFrame A s t := byteFrame_withCpu ..
@[simp] theorem byteFrame_advancePc (n : Word) : ByteFrame A s (t.advancePc n) ↔ ByteFrame A s t := byteFrame_withCpu ..
@[simp] theorem byteFrame_setPc (a : Word) : ByteFrame A s (t.setPc a) ↔ ByteFrame A s t := byteFrame_withCpu ..
@[simp] theorem byteFrame_setSp (v : Word) : ByteFrame A s (t.setSp v) ↔ ByteFrame A s t := byteFrame_withCpu ..
@[simp] theorem byteFrame_popSp : ByteFrame A s t.popSp ↔ ByteFrame A s t := byteFrame_withCpu ..
@[simp] theorem byteFrame_set8 (x : R8) (v : Byte) : ByteFrame A s (t.set8 x v) ↔ ByteFrame A s t := byteFrame_withCpu ..
@[simp] theorem byteFrame_alu (o : AluOp) (v : Byte) : ByteFrame A s (t.alu o v) ↔ ByteFrame A s t :=
  byteFrame_withCpu ..
@[simp] theorem byteFrame_returnFromInterrupt (hi lo : Byte) :
    ByteFrame A s (returnFromInterrupt hi lo t) ↔ ByteFrame A s t := by
  rw [returnFromInterrupt_eq, byteFrame_withCpu]
theorem byteFrame_setIme (b : Bool) : ByteFrame A s { t with ime := b } ↔ ByteFrame A s t :=
  byteFrame_withCpu t.regs b t.cur

/-- A store at an address of `A`. -/
@[simp] theorem byteFrame_cpuWrite {a : Word} (v : Byte) (h : ByteFrame A s t) (ha : a ∈ A) :
    ByteFrame A s (cpuWrite t a v) := by
  refine h.trans ⟨fun b hb _ hc => ?_, fun hA => cpuWrite_cart t v (hA a ha), fun hA hq => ?_⟩
  · exact peek_busWrite_other t v .cpu (fun e => hb (e ▸ ha)) fun _ => hc
  · have hd := cpuWrite_dma t v fun e : a = 0xFF46 => hA (e ▸ ha)
    exact ⟨(busWrite_frame t a v .cpu).env.trans hq.envDone, by rw [hd]; exact hq.dmaIdle, by rw [hd]; exact hq.noTrigger⟩

@[simp] theorem byteFrame_pushByte (v : Byte) (h : ByteFrame A s t) (ha : t.regs.sp - 1 ∈ A) :
    ByteFrame A s (pushByte t v) := byteFrame_cpuWrite v ((byteFrame_setSp _).2 h) ha

/-- What the timer may change of the state (20_memory.md R74). -/
theorem byteFrame_timer {x : Timer} (f : BitVec 5) (tma : x.tma = s.timer.tma) (tac : x.tac = s.timer.tac) :
    ByteFrame A s { s with timer := x, iflag := f } :=
  ⟨fun _ _ ha _ => peek_timer s ha tma tac f, fun _ => rfl, fun _ hq => ⟨hq.envDone, hq.dmaIdle, hq.noTrigger⟩⟩

/-- In a quiet machine the timer alone acts at the end of an M-cycle. -/
theorem byteFrame_endCycle (r : TickResult) (hq : s.Quiet) : ByteFrame A s (endCycle r s) := by
  have htimer : ByteFrame A s (timerTick s) := byteFrame_timer _ s.timer.tick_tma_tac.1 s.timer.tick_tma_tac.2
  obtain ⟨c, -, e⟩ := endCycle_eq r s
  have step (u : State) (hu : ByteFrame A s u) (hu' : u.Quiet) :
      ByteFrame A s ((dmaTick (envStep u)).withCpu s.regs s.ime c) := by
    rw [envStep_nil hu'.envDone, dmaTick_idle hu'.dmaIdle hu'.noTrigger]
    exact (byteFrame_withCpu ..).2 hu
  rw [e]
  cases r with
  | stop => exact step s byteFrame_refl hq
  | _ => exact step (timerTick s) htimer ⟨hq.envDone, hq.dmaIdle, hq.noTrigger⟩

end

/-! ### The stores still to come -/

/-- The stores of a push whose high byte goes out at step `hi`, from step `n` on. -/
def pushAddrs (hi n : Nat) (s : State) : List Word :=
  if n ≤ hi then [s.regs.sp - 1, s.regs.sp - 2] else [s.regs.sp - 1]

/-- The addresses the object of a kind may still store to from step `n` on. A conditional call decides in its c3. -/
def pendingStores (k : Kind) (n : Nat) (s : State) : List Word :=
  match k with
  | .push _ | .rst _ => pushAddrs 2 n s
  | .call _ => pushAddrs 4 n s
  | .callCc cc _ => if n ≤ 2 ∧ condHolds cc s.regs = false then [] else pushAddrs 4 n s
  | k => tableStores k s

/-- The addresses an object in the slot may still store to; a trampoline's are those of its sub-instruction. -/
def objectStores (k : Kind) (n : Nat) (l : Latches) (s : State) : List Word :=
  match k, n with
  | .prefixCb, 0 => tableStores (decodeOpcodePrefix (cpuRead s (s.regs.pc + 1))).kind s
  | .prefixCb, n + 1 => l.sub.elim [] fun j => pendingStores j (n + 1) s
  | k, n => pendingStores k n s

/-- The stores still to come are computed from the register file. -/
theorem pendingStores_regs (k : Kind) (n : Nat) {s t : State} (h : t.regs = s.regs) :
    pendingStores k n t = pendingStores k n s := by
  unfold pendingStores tableStores pushAddrs
  rw [h]

theorem objectStores_eq {k : Kind} (h : k ≠ .prefixCb) (n : Nat) (l : Latches) (s : State) :
    objectStores k n l s = pendingStores k n s := by
  unfold objectStores
  split
  · exact absurd rfl h
  · exact absurd rfl h
  · rfl

theorem objectStores_succ_regs (k : Kind) (n : Nat) (l : Latches) {s t : State} (h : t.regs = s.regs) :
    objectStores k (n + 1) l t = objectStores k (n + 1) l s := by
  by_cases hk : k = .prefixCb
  · subst hk
    exact congrArg (l.sub.elim []) (funext fun j => pendingStores_regs j (n + 1) h)
  · rw [objectStores_eq hk, objectStores_eq hk, pendingStores_regs k _ h]

theorem objectStores_prefixCb {l : Latches} {j : Kind} (h : l.sub = some j) (n : Nat) (s : State) :
    objectStores .prefixCb (n + 1) l s = pendingStores j (n + 1) s := by
  unfold objectStores; rw [h]; rfl

/-- No instruction of the CB table pushes. -/
theorem pendingStores_of_isCbKind {k : Kind} (h : isCbKind k = true) (n : Nat) (s : State) :
    pendingStores k n s = tableStores k s := by
  unfold pendingStores
  split
  case h_5 => rfl
  all_goals exact absurd h nofun

theorem tableStores_advancePc (k : Kind) (s : State) (m : Word) : tableStores k (s.advancePc m) = tableStores k s := by
  cases k <;> rfl

/-- A fresh object has all the stores of its instruction still to come. -/
theorem storeAddrs_eq (i : Instr) (s : State) :
    storeAddrs i s = objectStores i.kind (immediateBytes i.kind) .fresh s := by
  unfold storeAddrs
  generalize i.kind = k
  cases k with
  | callCc cc nn =>
    show (if condHolds cc s.regs then [s.regs.sp - 1, s.regs.sp - 2] else []) =
      if 2 ≤ 2 ∧ condHolds cc s.regs = false then [] else [s.regs.sp - 1, s.regs.sp - 2]
    cases condHolds cc s.regs <;> rfl
  | _ => rfl

/-! ### The ticks -/

/-- A tick that stores at addresses of `A` only, with `B` still to come, all of it in `A`. -/
structure TickBytes (A : List Word) (B : Latches → State → List Word) (s : State) (t : Tick) : Prop where
  frame : ByteFrame A s t.state
  rest : t.result = .running → B t.latches t.state ⊆ A

section
variable {A : List Word} {B : Latches → State → List Word} {l : Latches} {s s' : State}

@[simp] theorem tickBytes_more : TickBytes A B s (.more s' l) ↔ ByteFrame A s s' ∧ B l s' ⊆ A :=
  ⟨fun h => ⟨h.frame, h.rest rfl⟩, fun h => ⟨h.1, fun _ => h.2⟩⟩
@[simp] theorem tickBytes_last : TickBytes A B s (.last s' l) ↔ ByteFrame A s s' :=
  ⟨fun h => h.frame, fun h => ⟨h, nofun⟩⟩
@[simp] theorem tickBytes_halt :
    TickBytes A B s { state := s', latches := l, result := .halt } ↔ ByteFrame A s s' :=
  ⟨fun h => h.frame, fun h => ⟨h, nofun⟩⟩
@[simp] theorem tickBytes_stop :
    TickBytes A B s { state := s', latches := l, result := .stop } ↔ ByteFrame A s s' :=
  ⟨fun h => h.frame, fun h => ⟨h, nofun⟩⟩
@[simp] theorem tickBytes_ite (c : Prop) [Decidable c] (t t' : Tick) :
    TickBytes A B s (if c then t else t') ↔ if c then TickBytes A B s t else TickBytes A B s t' := by
  split <;> rfl

end


/-! The classes that store at HL, and those that push. -/

/-- A read-modify-write at HL writes no register before its store. -/
theorem cbMemTicks_bytes (res : Regs → Byte → Byte) (flags : Regs → Byte → Regs) (n : Nat) (l : Latches) (s : State) :
    TickBytes [s.regs.hl] (fun _ t => [t.regs.hl]) s (cbMemTicks res flags n l s) := by
  rw [cbMemTicks.eq_def]
  split <;> simp [Regs.hl]

theorem pushByte_regs (s : State) (v : Byte) : (pushByte s v).regs = { s.regs with sp := s.regs.sp - 1 } :=
  cpuWrite_regs _ _ v

/-- The second store of a push is at SP-2 (43_loads.md R251). -/
theorem sub_one_sub_one (x : Word) : x - 1#16 - 1#16 = x - 2#16 := by bv_omega

theorem pushTicks_bytes (q : R16Stk) (n : Nat) (l : Latches) (s : State) :
    TickBytes (pushAddrs 2 n s) (fun _ => pushAddrs 2 (n + 1)) s (pushTicks q n l s) := by
  rw [pushTicks.eq_def]
  split <;> simp [pushAddrs, pushByte_regs, sub_one_sub_one]

theorem rstTicks_bytes (x : Fin 8) (n : Nat) (l : Latches) (s : State) :
    TickBytes (pushAddrs 2 n s) (fun _ => pushAddrs 2 (n + 1)) s (rstTicks x n l s) := by
  rw [rstTicks.eq_def]
  split <;> simp [pushAddrs, pushByte_regs, sub_one_sub_one]

theorem callTicks_bytes (nn : Word) (n : Nat) (l : Latches) (s : State) :
    TickBytes (pushAddrs 4 n s) (fun _ => pushAddrs 4 (n + 1)) s (callTicks nn n l s) := by
  rw [callTicks.eq_def]
  split <;> simp [pushAddrs, pushByte_regs, sub_one_sub_one]

theorem callCcTicks_bytes (cc : Cond) (nn : Word) (n : Nat) (l : Latches) (s : State) :
    TickBytes (pendingStores (.callCc cc nn) n s) (fun _ => pendingStores (.callCc cc nn) (n + 1)) s
      (callCcTicks cc nn n l s) := by
  rw [callCcTicks.eq_def]
  split <;> simp [pendingStores, pushAddrs, pushByte_regs, sub_one_sub_one]

/-- The tick of every kind, by its step: the kinds that store name the addresses their step leaves pending, and every other
kind has none and changes only what is behind no address, or, for STOP, behind DIV. -/
theorem tableTicks_bytes (k : Kind) (n : Nat) (l : Latches) (s : State) :
    TickBytes (pendingStores k n s) (fun _ => pendingStores k (n + 1)) s (tableTicks k n l s) := by
  cases k with
  | push q => exact pushTicks_bytes q n l s
  | rst x => exact rstTicks_bytes x n l s
  | call nn => exact callTicks_bytes nn n l s
  | callCc cc nn => exact callCcTicks_bytes cc nn n l s
  | rotMemHl | resMemHl | setMemHl =>
    show TickBytes [s.regs.hl] (fun _ t => [t.regs.hl]) s _
    simp only [tableTicks, rotMemHlTicks, resMemHlTicks, setMemHlTicks]
    exact cbMemTicks_bytes _ _ n l s
  | ldMemHlR | ldMemHlN | incMemHl | decMemHl =>
    show TickBytes [s.regs.hl] (fun _ t => [t.regs.hl]) s _
    simp only [tableTicks, ldMemHlRTicks.eq_def, ldMemHlNTicks.eq_def, incMemHlTicks.eq_def, decMemHlTicks.eq_def]
    split <;> simp [Regs.hl]
  | ldIndA m =>
    show TickBytes [s.regs.ptrAddr m] (fun _ t => [t.regs.ptrAddr m]) s (ldIndATicks m n l s)
    rw [ldIndATicks.eq_def]
    split <;> cases m <;> simp [Regs.ptrAddr, Regs.hl, Regs.bc, Regs.de]
  | ldMemCA =>
    show TickBytes [highPage s.regs.c] (fun _ t => [highPage t.regs.c]) s (ldMemCATicks n l s)
    rw [ldMemCATicks.eq_def]
    split <;> simp
  | ldAbsA nn =>
    show TickBytes [nn] (fun _ _ => [nn]) s (ldAbsATicks nn n l s)
    rw [ldAbsATicks.eq_def]
    split <;> simp
  | ldhNA x =>
    show TickBytes [highPage x] (fun _ _ => [highPage x]) s (ldhNATicks x n l s)
    rw [ldhNATicks.eq_def]
    split <;> simp
  | ldAbsSp nn =>
    show TickBytes [nn, nn + 1] (fun _ _ => [nn, nn + 1]) s (ldAbsSpTicks nn n l s)
    rw [ldAbsSpTicks.eq_def]
    split <;> simp
  | di | ei =>
    simp only [tableTicks, diTicks.eq_def, eiTicks.eq_def]
    split
    · exact tickBytes_last.2 ((byteFrame_setIme _).2 ((byteFrame_advancePc 1).2 byteFrame_refl))
    · simp
  | stop =>
    simp only [tableTicks, stopTicks.eq_def]
    split
    · exact tickBytes_stop.2 (((byteFrame_advancePc _).2 byteFrame_refl).trans (byteFrame_timer _ rfl rfl))
    · simp
  | _ =>
    show TickBytes [] (fun _ _ => []) s _
    simp only [tableTicks, nopTicks.eq_def, haltTicks.eq_def, ldRRTicks.eq_def, ldRNTicks.eq_def, ldRMemHlTicks.eq_def,
      ldAIndTicks.eq_def, ldAAbsTicks.eq_def, ldhANTicks.eq_def, ldAMemCTicks.eq_def, ldRRNTicks.eq_def,
      ldSpHlTicks.eq_def, ldHlSpETicks.eq_def, popTicks.eq_def, aluRTicks.eq_def, aluMemHlTicks.eq_def, aluNTicks.eq_def,
      incRTicks.eq_def, decRTicks.eq_def, incRRTicks.eq_def, decRRTicks.eq_def, addHlTicks.eq_def, addSpTicks.eq_def,
      daaTicks, cplTicks, scfTicks, ccfTicks, regsTicks.eq_def, rotATicks.eq_def, rotRTicks, bitRTicks,
      bitMemHlTicks.eq_def, resRTicks, setRTicks, cbRegTicks.eq_def, jpTicks.eq_def, jpCcTicks.eq_def, jpHlTicks.eq_def,
      jrTicks.eq_def, jrCcTicks.eq_def, retTicks.eq_def, retCcTicks.eq_def, retiTicks.eq_def]
    split <;> simp

/-- A tick with more to come leaves the trampoline's latch. -/
theorem sub_of_running_tableTicks {k : Kind} {n : Nat} {l : Latches} {s : State}
    (h : (tableTicks k n l s).result = .running) : (tableTicks k n l s).latches.sub = l.sub := by
  by_cases hk : k = .stop
  · subst hk; cases n <;> exact nomatch h
  · exact (tableTicks_law hk n l s).sub

/-- A tick of an object stores only where the object still has stores to come, and leaves only those to come. -/
theorem kindTicks_bytes (k : Kind) (n : Nat) (l : Latches) (s : State) :
    TickBytes (objectStores k n l s) (objectStores k (n + 1)) s (kindTicks k n l s) := by
  by_cases hk : k = .prefixCb
  · subst hk
    cases n with
    | zero =>
      refine ⟨(byteFrame_advancePc 2).2 byteFrame_refl, fun _ => ?_⟩
      have hcb := isCbKind_decodeOpcodePrefix (cpuRead s (s.regs.pc + 1))
      show pendingStores (decodeOpcodePrefix (cpuRead s (s.regs.pc + 1))).kind 1 (s.advancePc 2) ⊆ _
      rw [pendingStores_of_isCbKind hcb, tableStores_advancePc]
      exact List.Subset.refl _
    | succ n =>
      cases hsub : l.sub with
      | none => rw [prefixCbTicks_none hsub]; simp
      | some j =>
        have hj := tableTicks_bytes j (n + 1) l s
        rw [prefixCbTicks_some hsub, objectStores_prefixCb hsub]
        refine ⟨hj.frame, fun hr => ?_⟩
        rw [objectStores_prefixCb ((sub_of_running_tableTicks hr).trans hsub)]
        exact hj.rest hr
  · have h := tableTicks_bytes k n l s
    rw [kindTicks_eq hk, objectStores_eq hk]
    refine ⟨h.frame, fun hr => ?_⟩
    rw [objectStores_eq hk]
    exact h.rest hr

/-! ### The run -/

theorem byteFrame_retire {A : List Word} {s t : State} (r : TickResult) (n : Nat) (l : Latches) (h : ByteFrame A s t) :
    ByteFrame A s (retire r n l t) := by
  rw [retire_eq]
  exact (byteFrame_withCpu t.regs t.ime _).2 h

/-- An M-cycle of an object in a quiet machine. -/
theorem byteFrame_cycle {A : List Word} (hA : 0xFF46 ∉ A) {k : Kind} {n : Nat} {l : Latches} {s : State} (hq : s.Quiet)
    (hs : objectStores k n l s ⊆ A) : ByteFrame A s (cycle (kindTicks k) n l s).state := by
  have htick := byteFrame_retire (kindTicks k n l s).result n (kindTicks k n l s).latches
    ((kindTicks_bytes k n l s).frame.mono hs)
  exact htick.trans (byteFrame_endCycle _ (htick.quiet hA hq))

/-- The run of an object in a quiet machine touches no byte but those it has to store to. -/
theorem byteFrame_runTicks {A : List Word} (hA : 0xFF46 ∉ A) (k : Kind) (fuel n : Nat) (l : Latches) {s : State}
    (hq : s.Quiet) (hs : objectStores k n l s ⊆ A) : ByteFrame A s (runTicks fuel (kindTicks k) n l s) := by
  induction fuel generalizing n l s with
  | zero => exact byteFrame_refl
  | succ fuel ih =>
    have hcycle := byteFrame_cycle hA hq hs
    unfold runTicks
    dsimp only
    split
    case h_1 hr =>
      refine hcycle.trans (ih (n + 1) _ (hcycle.quiet hA hq) ?_)
      rw [objectStores_succ_regs k n _ (cycle_regs (kindTicks k) n l s)]
      exact List.Subset.trans ((kindTicks_bytes k n l s).rest hr) hs
    all_goals exact hcycle

end Sys2Proof.Machine

section
open Sys2Proof Sys2Proof.Machine

/-- Settles O57: whatever the latches hold, a tick is one of the kinds' ticks, and each of those leaves these parts. -/
theorem ticksChangeNoLock : Obligations.TicksChangeNoLock := by
  intro k n l s
  have h := kindTicks_store k n l s
  exact ⟨h.locks, h.step, h.bank, h.prevBit, h.ovfPending, h.nibbles, h.env⟩

/-- Settles O56: the run of a fresh object touches no byte but those its instruction stores to. -/
theorem memoryFrame : Obligations.MemoryFrame := by
  intro i s t hq hdma h
  rw [storeAddrs_eq] at hdma ⊢
  have hrun := byteFrame_runTicks hdma i.kind maxCycles (immediateBytes i.kind) .fresh hq (List.Subset.refl _)
  rw [← exec_next h] at hrun
  refine ⟨hrun.bytes, fun hstores a ha => ?_⟩
  rw [peek_cart t ha, peek_cart s ha, hrun.cart hstores]

end
end

section
/-! The decoder and the encoder against each other (30_encoding.md R100 to R114): one rule of `decode` for each format of
the unprefixed map, what the encoder writes for each entry of the two maps, and the operand codes of the register file
(R103 to R105). -/

namespace Sys2Proof

/-! ### Decoding, one rule per format (R100, R112) -/

theorem decode_op {op : Byte} {i : Instr} (h : decodeOpcode op = .op i) (rest : List Byte) :
    decode (op :: rest) = .ok (i, rest) := by
  simp only [decode, h]

theorem decode_op8 {op : Byte} {mk : Byte → Instr} (h : decodeOpcode op = .op8 mk) (n : Byte) (rest : List Byte) :
    decode (op :: n :: rest) = .ok (mk n, rest) := by
  simp only [decode, h]

theorem decode_op16 {op : Byte} {mk : Word → Instr} (h : decodeOpcode op = .op16 mk) (lo hi : Byte) (rest : List Byte) :
    decode (op :: lo :: hi :: rest) = .ok (mk (joinBytes hi lo), rest) := by
  simp only [decode, h]

theorem decode_cbPrefix {op : Byte} (h : decodeOpcode op = .cbPrefix) (cb : Byte) (rest : List Byte) :
    decode (op :: cb :: rest) = .ok (decodeOpcodePrefix cb, rest) := by
  simp only [decode, h]

/-- The immediate of an n16 form comes back from its two bytes (R106). -/
theorem decode_word {op : Byte} {mk : Word → Instr} (h : decodeOpcode op = .op16 mk) (nn : Word) (rest : List Byte) :
    decode (op :: loByte nn :: hiByte nn :: rest) = .ok (mk nn, rest) := by
  rw [decode_op16 h, joinBytes_hiByte_loByte]

/-! ### The maps as instructions and bytes -/

/-- The number of bytes of an entry's instructions, the opcode included (R111, R112). -/
def Entry.length : Entry → Nat
  | .op _ => 1
  | .op8 _ => 2
  | .op16 _ => 3
  | .cbPrefix => 2

/-- The entry's instruction whose bytes after the opcode, low byte first, are those of `w` (R100, R106, R112). -/
def Entry.instr (w : Word) : Entry → Instr
  | .op i => i
  | .op8 mk => mk (loByte w)
  | .op16 mk => mk w
  | .cbPrefix => decodeOpcodePrefix (loByte w)

/-- The bytes of that instruction under the opcode `op`. -/
def Entry.bytes (op : Byte) (w : Word) (e : Entry) : List Byte := [op, loByte w, hiByte w].take e.length

theorem Entry.length_bounds (e : Entry) : 1 ≤ e.length ∧ e.length ≤ 3 := by
  cases e <;> simp [Entry.length]

theorem Entry.length_bytes (op : Byte) (w : Word) (e : Entry) : (e.bytes op w).length = e.length := by cases e <;> rfl

theorem Entry.bytes_append_drop (e : Entry) (op x y : Byte) (rest : List Byte) :
    e.bytes op (joinBytes y x) ++ (op :: x :: y :: rest).drop e.length = op :: x :: y :: rest := by
  unfold Entry.bytes
  rw [loByte_joinBytes, hiByte_joinBytes]
  cases e <;> rfl

/-- The decoder reads the instruction off its bytes and leaves what follows them. -/
theorem decode_bytes_append (op : Byte) (w : Word) (rest : List Byte) :
    decode ((decodeOpcode op).bytes op w ++ rest) = .ok ((decodeOpcode op).instr w, rest) := by
  cases e : decodeOpcode op with
  | op i => exact decode_op e rest
  | op8 mk => exact decode_op8 e (loByte w) rest
  | op16 mk => exact decode_word e w rest
  | cbPrefix => exact decode_cbPrefix e (loByte w) rest

theorem eq_of_decodeOpcode_cbPrefix {op : Byte} (h : decodeOpcode op = .cbPrefix) : op = 0xCB := by
  have hmap : ∀ op : Byte, (decodeOpcode op matches .cbPrefix) = true → op = 0xCB := by decide
  exact hmap op (by rw [h])

/-- All that `decode` reads: a lone 0xCB (log 11), or the bytes of an entry's instruction. -/
theorem decode_cases {bs : List Byte} {i : Instr} {rest : List Byte} (h : decode bs = .ok (i, rest)) :
    (bs = [0xCB] ∧ i = .prefixCb ∧ rest = []) ∨
    ∃ op w, bs = (decodeOpcode op).bytes op w ++ rest ∧ i = (decodeOpcode op).instr w := by
  cases bs with
  | nil => exact nomatch h
  | cons op tail =>
    cases e : decodeOpcode op with
    | op j =>
      rw [decode_op e] at h
      cases h
      exact .inr ⟨op, 0, by rw [e]; exact ⟨rfl, rfl⟩⟩
    | op8 mk =>
      match tail with
      | [] => simp [decode, e] at h
      | n :: tail =>
        rw [decode_op8 e] at h
        cases h
        exact .inr ⟨op, joinBytes 0 n, by simp [e, Entry.bytes, Entry.length, Entry.instr]⟩
    | op16 mk =>
      match tail with
      | [] | [_] => simp [decode, e] at h
      | lo :: hi :: tail =>
        rw [decode_op16 e] at h
        cases h
        exact .inr ⟨op, joinBytes hi lo, by simp [e, Entry.bytes, Entry.length, Entry.instr]⟩
    | cbPrefix =>
      match tail with
      | [] =>
        obtain rfl := eq_of_decodeOpcode_cbPrefix e
        cases h
        exact .inl ⟨rfl, rfl, rfl⟩
      | cb :: tail =>
        rw [decode_cbPrefix e] at h
        cases h
        exact .inr ⟨op, joinBytes 0 cb, by simp [e, Entry.bytes, Entry.length, Entry.instr]⟩

/-! ### The encoder on the maps -/

theorem encode_decodeOpcodePrefix (cb : Byte) : encode (decodeOpcodePrefix cb) = [0xCB, cb] := by
  revert cb; decide

/-- The encoder writes every entry's instruction as the bytes under which the map holds it (R113); only the entry of 0xCB,
the 204th, stands for a second map (R112, R114). -/
theorem encode_instr_decodeOpcode (op : Byte) (w : Word) :
    encode ((decodeOpcode op).instr w) = (decodeOpcode op).bytes op w := by
  obtain ⟨k, rfl⟩ : ∃ k : Fin 256, op = BitVec.ofFin k := ⟨op.toFin, rfl⟩
  fin_cases k
  on_goal 204 => exact encode_decodeOpcodePrefix (loByte w)
  all_goals rfl

/-! ### The round trips -/

/-- The rows of the maps compute with their immediates free; an n16 is the one immediate the decoder puts together. -/
theorem decode_encode_append (i : Instr) (rest : List Byte) (h : i = .prefixCb → rest = []) :
    decode (encode i ++ rest) = .ok (i, rest) := by
  cases i with
  | prefixCb => rw [h rfl]; rfl
  | ldBcN16 nn | ldDeN16 nn | ldHlN16 nn | ldSpN16 nn | ldMemN16Sp nn | ldMemN16A nn | ldAMemN16 nn
  | jpN16 nn | jpNzN16 nn | jpZN16 nn | jpNcN16 nn | jpCN16 nn
  | callN16 nn | callNzN16 nn | callZN16 nn | callNcN16 nn | callCN16 nn => exact decode_word rfl nn rest
  | _ => rfl

theorem encode_append_of_decode {bs : List Byte} {i : Instr} {rest : List Byte} (h : decode bs = .ok (i, rest)) :
    encode i ++ rest = bs := by
  obtain ⟨rfl, rfl, rfl⟩ | ⟨op, w, rfl, rfl⟩ := decode_cases h
  · rfl
  · rw [encode_instr_decodeOpcode]

/-! ### Kinds -/

/-- The object of an instruction has a kind that stands for some instruction (R110, R111). -/
theorem wellFormed_kind (i : Instr) : i.kind.wellFormed = true := by cases i <;> rfl

theorem mem_unassignedOpcodes_of_kind {i : Instr} {op : Byte} (h : i.kind = .illegal op) : op ∈ unassignedOpcodes := by
  have hwf := wellFormed_kind i
  rw [h] at hwf
  exact List.contains_iff_mem.1 hwf

/-- Each of the eleven is read, alone, as the instruction of its own unassigned kind (R110). -/
theorem decode_of_mem_unassignedOpcodes {op : Byte} (h : op ∈ unassignedOpcodes) :
    ∃ i, decode [op] = .ok (i, []) ∧ i.kind = .illegal op := by
  unfold unassignedOpcodes at h
  fin_cases h
  all_goals exact ⟨_, rfl, rfl⟩

namespace Machine

/-! ### The operand codes (R103 to R105) -/

theorem get8_set8 (r : Regs) (x y : R8) (v : Byte) : (r.set8 x v).get8 y = if y = x then v else r.get8 y := by
  split
  · subst y; exact get8_set8_same r x v
  · exact get8_set8_other r v ‹_›

/-- The pairs share no register. -/
theorem get16_set16_other (r : Regs) {p q : R16} (v : Word) (h : q ≠ p) : (r.set16 p v).get16 q = r.get16 q := by
  cases p <;> cases q
  case bc.bc | de.de | hl.hl | sp.sp => exact absurd rfl h
  all_goals rfl

theorem getStk_setStk_same (r : Regs) (p : R16Stk) (v : Word) :
    (r.setStk p v).getStk p = if p = .af then v &&& 0xFFF0 else v := by
  cases p with
  | bc => exact bc_setBc r v
  | de => exact de_setDe r v
  | hl => exact hl_setHl r v
  | af => exact af_setAf r v

theorem getStk_setStk_other (r : Regs) {p q : R16Stk} (v : Word) (h : q ≠ p) :
    (r.setStk p v).getStk q = r.getStk q := by
  cases p <;> cases q
  case bc.bc | de.de | hl.hl | af.af => exact absurd rfl h
  all_goals rfl

end Machine

end Sys2Proof

section
open Sys2Proof Sys2Proof.Machine

/-- Settles O1: row by row of the two maps. -/
theorem decodeOfEncodeIsTheInstruction : Obligations.DecodeOfEncodeIsTheInstruction :=
  decode_encode_append

/-- Settles O2: the decoder reads a lone 0xCB or the bytes of an entry's instruction, and the encoder writes those. -/
theorem encodeOfDecodedIsTheBytesRead : Obligations.EncodeOfDecodedIsTheBytesRead :=
  fun _ _ _ => encode_append_of_decode

/-- Settles O3: the length is that of the opcode's entry, and the two bytes after the opcode are enough for any entry. -/
theorem firstByteFixesTheLength : Obligations.FirstByteFixesTheLength := by
  intro b
  obtain ⟨hlo, hhi⟩ := (decodeOpcode b).length_bounds
  refine ⟨(decodeOpcode b).length, hlo, hhi, ?_, fun x y rest => ⟨(decodeOpcode b).instr (joinBytes y x), ?_, ?_⟩⟩
  · rintro rfl; rfl
  · have hread := decode_bytes_append b (joinBytes y x) ((b :: x :: y :: rest).drop (decodeOpcode b).length)
    rwa [Entry.bytes_append_drop] at hread
  · rw [encode_instr_decodeOpcode, Entry.length_bytes]

/-- Settles O4: an unassigned kind holds one of the eleven opcodes, and each of the eleven is read as its own kind. -/
theorem unassignedOpcodesAreTheEleven : Obligations.UnassignedOpcodesAreTheEleven :=
  fun _ => ⟨fun ⟨_, _, hkind⟩ => mem_unassignedOpcodes_of_kind hkind, decode_of_mem_unassignedOpcodes⟩

/-- Settles O5: the samples are closed words, read by the rule of their format. -/
theorem sampleWordsDecode : Obligations.SampleWordsDecode :=
  ⟨decode_op rfl [], decode_op16 rfl 0xFE 0xFF [], decode_op rfl [], decode_cbPrefix rfl 0x7C [], decode_op8 rfl 0xFB [],
    decode_op rfl [], decode_op rfl [], decode_op rfl []⟩

/-- Settles O16: reading after writing, for the same code and for another, in each of the three tables of codes. -/
theorem operandCodesNameOneRegister : Obligations.OperandCodesNameOneRegister := by
  refine ⟨get8_set8, fun r x v => ⟨set8_f r x v, set8_sp r x v, set8_pc r x v⟩, fun r p q v => ?_, fun r p q v => ?_⟩
  · split
    · subst q; exact get16_set16_same r p v
    · exact get16_set16_other r v ‹_›
  · split
    · subst q; exact getStk_setStk_same r p v
    · exact getStk_setStk_other r v ‹_›

end
end
section
/-! One step against the M-cycles of the machine (40_execution_cycle.md R130 to R138; log 1, log 15). `runTicks` follows an
object that is not in the slot, `systemStep` the object in the slot; the two agree because no tick reads the slot. -/

namespace Sys2Proof.Machine

/-! ### The slot replaced -/

/-- The state with another content of the slot. -/
def State.withSlot (s : State) (c : Option Obj) : State := { s with cur := c }

/-- The tick with another content of the slot in its state. -/
def Tick.withSlot (t : Tick) (c : Option Obj) : Tick := { t with state := t.state.withSlot c }

section
variable (s : State) (c : Option Obj)

@[simp] theorem withSlot_regs : (s.withSlot c).regs = s.regs := rfl
@[simp] theorem withSlot_ime : (s.withSlot c).ime = s.ime := rfl
@[simp] theorem withSlot_queued : (s.withSlot c).queued = s.queued := rfl
@[simp] theorem withSlot_illegalFault : (s.withSlot c).illegalFault = s.illegalFault := rfl
@[simp] theorem cpuRead_withSlot (a : Word) : cpuRead (s.withSlot c) a = cpuRead s a := rfl
@[simp] theorem popByte_withSlot : popByte (s.withSlot c) = popByte s := rfl
@[simp] theorem setRegs_withSlot (g : Regs) : (s.withSlot c).setRegs g = (s.setRegs g).withSlot c := rfl
@[simp] theorem advancePc_withSlot (n : Word) : (s.withSlot c).advancePc n = (s.advancePc n).withSlot c := rfl
@[simp] theorem setPc_withSlot (a : Word) : (s.withSlot c).setPc a = (s.setPc a).withSlot c := rfl
@[simp] theorem setSp_withSlot (a : Word) : (s.withSlot c).setSp a = (s.setSp a).withSlot c := rfl
@[simp] theorem popSp_withSlot : (s.withSlot c).popSp = s.popSp.withSlot c := rfl
@[simp] theorem set8_withSlot (x : R8) (v : Byte) : (s.withSlot c).set8 x v = (s.set8 x v).withSlot c := rfl
@[simp] theorem alu_withSlot (o : AluOp) (v : Byte) : (s.withSlot c).alu o v = (s.alu o v).withSlot c := rfl
@[simp] theorem returnFromInterrupt_withSlot (hi lo : Byte) :
    returnFromInterrupt hi lo (s.withSlot c) = (returnFromInterrupt hi lo s).withSlot c := rfl

/-- What passes the CPU's own parts through passes the slot through. -/
theorem withSlot_of_withCpu {f : State → State} (h : ∀ s r b c, f (s.withCpu r b c) = (f s).withCpu r b c) :
    f (s.withSlot c) = (f s).withSlot c := by
  have e : f (s.withSlot c) = (f s).withCpu s.regs s.ime c := h s s.regs s.ime c
  rw [e, ← regs_of_withCpu h s, ← ime_of_withCpu h s]
  rfl

@[simp] theorem cpuWrite_withSlot (a : Word) (v : Byte) : cpuWrite (s.withSlot c) a v = (cpuWrite s a v).withSlot c :=
  withSlot_of_withCpu s c (f := fun s => cpuWrite s a v) fun s r b c => cpuWrite_withCpu s r b c a v
@[simp] theorem pushByte_withSlot (v : Byte) : pushByte (s.withSlot c) v = (pushByte s v).withSlot c :=
  cpuWrite_withSlot (s.setSp (s.regs.sp - 1)) c _ v
@[simp] theorem endCycle_withSlot : endCycle .running (s.withSlot c) = (endCycle .running s).withSlot c :=
  withSlot_of_withCpu s c endCycle_withCpu

end

/-! ### No tick reads the slot, and no object takes more than six M-cycles -/

/-- What the result of a kind's tick says of its step and its kind: the sixth M-cycle is the last, and HALT and STOP are
the results of those two instructions only (40_execution_cycle.md R134, R135). -/
def Paced (k : Kind) (n : Nat) : TickResult → Prop
  | .running => n < 5 ∧ k ≠ .stop
  | .finished => True
  | .halt => k = .halt
  | .stop => k = .stop

/-- The tick `t'` of a kind's object in a state with the slot `c`, where `t` is its tick in the state as it is. -/
structure SlotLaw (k : Kind) (n : Nat) (c : Option Obj) (t t' : Tick) : Prop where
  blind : t' = t.withSlot c
  paced : Paced k n t.result

section
variable {k : Kind} {n : Nat} {c : Option Obj} {s s' : State} {l l' : Latches}

@[simp] theorem slotLaw_more :
    SlotLaw k n c (.more s l) (.more s' l') ↔ (s' = s.withSlot c ∧ l' = l) ∧ n < 5 ∧ k ≠ .stop :=
  ⟨fun h => ⟨by simpa [Tick.more, Tick.withSlot] using h.blind, h.paced⟩,
   fun ⟨⟨hs, hl⟩, h⟩ => ⟨by rw [hs, hl]; rfl, h⟩⟩
@[simp] theorem slotLaw_last : SlotLaw k n c (.last s l) (.last s' l') ↔ s' = s.withSlot c ∧ l' = l :=
  ⟨fun h => by simpa [Tick.last, Tick.withSlot] using h.blind, fun ⟨hs, hl⟩ => ⟨by rw [hs, hl]; rfl, trivial⟩⟩
@[simp] theorem slotLaw_halt :
    SlotLaw k n c { state := s, latches := l, result := .halt } { state := s', latches := l', result := .halt } ↔
      (s' = s.withSlot c ∧ l' = l) ∧ k = .halt :=
  ⟨fun h => ⟨by simpa [Tick.withSlot] using h.blind, h.paced⟩, fun ⟨⟨hs, hl⟩, h⟩ => ⟨by rw [hs, hl]; rfl, h⟩⟩
@[simp] theorem slotLaw_ite (p : Prop) [Decidable p] (t u t' u' : Tick) :
    SlotLaw k n c (if p then t else u) (if p then t' else u') ↔
      if p then SlotLaw k n c t t' else SlotLaw k n c u u' := by
  split <;> rfl

end

/-- The tick of every kind, by its step: each of the named updates of the state passes the slot through. -/
theorem tableTicks_slot (k : Kind) (n : Nat) (l : Latches) (s : State) (c : Option Obj) :
    SlotLaw k n c (tableTicks k n l s) (tableTicks k n l (s.withSlot c)) := by
  cases k with
  | stop => cases n <;> exact ⟨rfl, rfl⟩
  | di | ei =>
    simp only [tableTicks, diTicks.eq_def, eiTicks.eq_def]
    split
    · exact slotLaw_last.2 ⟨rfl, rfl⟩
    · simp
  | jpCc cc _ | jrCc cc _ | callCc cc _ | retCc cc =>
    simp only [tableTicks, jpCcTicks.eq_def, jrCcTicks.eq_def, callCcTicks.eq_def, retCcTicks.eq_def]
    cases h : condHolds cc s.regs
    all_goals split <;> simp [h]
  | _ =>
    simp only [tableTicks, nopTicks.eq_def, haltTicks.eq_def,
      ldRRTicks.eq_def, ldRNTicks.eq_def, ldRMemHlTicks.eq_def, ldMemHlRTicks.eq_def, ldMemHlNTicks.eq_def,
      ldAIndTicks.eq_def, ldIndATicks.eq_def, ldAAbsTicks.eq_def, ldAbsATicks.eq_def, ldhANTicks.eq_def,
      ldhNATicks.eq_def, ldAMemCTicks.eq_def, ldMemCATicks.eq_def, ldRRNTicks.eq_def, ldAbsSpTicks.eq_def,
      ldSpHlTicks.eq_def, ldHlSpETicks.eq_def, pushTicks.eq_def, popTicks.eq_def, aluRTicks.eq_def, aluMemHlTicks.eq_def,
      aluNTicks.eq_def, incRTicks.eq_def, incMemHlTicks.eq_def, decRTicks.eq_def, decMemHlTicks.eq_def,
      incRRTicks.eq_def, decRRTicks.eq_def, addHlTicks.eq_def, addSpTicks.eq_def, daaTicks, cplTicks, scfTicks, ccfTicks,
      regsTicks.eq_def, rotATicks.eq_def, rotRTicks, rotMemHlTicks, bitRTicks, bitMemHlTicks.eq_def, resRTicks,
      resMemHlTicks, setRTicks, setMemHlTicks, cbRegTicks.eq_def, cbMemTicks.eq_def, jpTicks.eq_def,
      jpHlTicks.eq_def, jrTicks.eq_def, callTicks.eq_def, retTicks.eq_def, retiTicks.eq_def, rstTicks.eq_def]
    split <;> simp

/-- A trampoline's tick is its sub-instruction's, and that is of the CB table. -/
theorem kindTicks_slot {k : Kind} (n : Nat) {l : Latches} (hl : LatchLegal k l) (s : State) (c : Option Obj) :
    SlotLaw k n c (kindTicks k n l s) (kindTicks k n l (s.withSlot c)) := by
  by_cases hk : k = .prefixCb
  · subst hk
    cases n with
    | zero => exact slotLaw_more.2 ⟨⟨rfl, rfl⟩, by omega, nofun⟩
    | succ n =>
      cases e : l.sub with
      | none => rw [prefixCbTicks_none e, prefixCbTicks_none e]; exact slotLaw_last.2 ⟨rfl, rfl⟩
      | some j =>
        rw [prefixCbTicks_some e, prefixCbTicks_some e]
        obtain ⟨hblind, hpaced⟩ := tableTicks_slot j (n + 1) l s c
        have hj : isCbKind j = true := by have hsub := hl rfl; rw [e] at hsub; exact hsub
        refine ⟨hblind, ?_⟩
        cases hr : (tableTicks j (n + 1) l s).result with
        | running => rw [hr] at hpaced; exact ⟨hpaced.1, nofun⟩
        | finished => trivial
        | halt => rw [hr] at hpaced; cases hpaced; exact nomatch hj
        | stop => rw [hr] at hpaced; exact absurd hpaced (ne_stop_of_isCbKind hj)
  · rw [kindTicks_eq hk]; exact tableTicks_slot k n l s c

theorem kindTicks_paced {k : Kind} {n : Nat} {l : Latches} {s : State} {r : TickResult} (hl : LatchLegal k l)
    (hr : (kindTicks k n l s).result = r) : Paced k n r :=
  hr ▸ (kindTicks_slot n hl s none).paced

/-! ### The M-cycle of the object in the slot -/

/-- One M-cycle of an object in the slot, where `held` is the object in the slot at a step with its latches. -/
def slotCycle (t : Ticks) (held : Nat → Latches → Obj) (n : Nat) (l : Latches) (s : State) : State :=
  endCycle (t n l s).result (slotAfter (some (held (n + 1) (t n l s).latches)) (t n l s) n)

theorem objectCycle_eq (k : Kind) (n : Nat) (l : Latches) (s : State) :
    objectCycle k n l s = slotCycle (kindTicks k) (.running k) n l s := rfl
theorem serviceCycle_eq (t : Irq) (n : Nat) (s : State) :
    serviceCycle t n s = slotCycle (serviceTicks t) (fun n _ => .service t n) n .fresh s := rfl

/-- The slot after a tick holds nothing of what it held before. -/
theorem slotAfter_withSlot (keep : Option Obj) (r : Tick) (n : Nat) (c : Option Obj) :
    slotAfter keep (r.withSlot c) n = slotAfter keep r n := by
  obtain ⟨s, l, result⟩ := r
  cases result <;> rfl

/-- An M-cycle with more to come leaves what the run leaves, with the object in the slot. -/
theorem slotCycle_running {t : Ticks} {n : Nat} {l : Latches} {s : State} (held : Nat → Latches → Obj)
    (hr : (t n l s).result = .running) :
    slotCycle t held n l s = (cycle t n l s).state.withSlot (some (held (n + 1) (t n l s).latches)) := by
  simp only [slotCycle, slotAfter, cycle, hr, retire_running]
  exact endCycle_withSlot _ _

/-- The last M-cycle leaves what the run leaves. -/
theorem slotCycle_ended {t : Ticks} {n : Nat} {l : Latches} {s : State} (held : Nat → Latches → Obj)
    (hr : (t n l s).result ≠ .running) : slotCycle t held n l s = (cycle t n l s).state := by
  unfold slotCycle slotAfter cycle
  split
  · exact absurd ‹_› hr
  all_goals rfl

theorem runTicks_running {t : Ticks} {n : Nat} {l : Latches} {s : State} (fuel : Nat)
    (hr : (t n l s).result = .running) :
    runTicks (fuel + 1) t n l s = runTicks fuel t (n + 1) (t n l s).latches (cycle t n l s).state := by
  simp [runTicks, cycle, hr]

theorem runTicks_ended {t : Ticks} {n : Nat} {l : Latches} {s : State} (fuel : Nat)
    (hr : (t n l s).result ≠ .running) : runTicks (fuel + 1) t n l s = (cycle t n l s).state := by
  unfold runTicks
  dsimp only
  split
  · exact absurd ‹_› hr
  all_goals rfl

/-- An object that ends, and a HALT that is not in its halt bug, leave the machine at a boundary (R132). -/
theorem atBoundary_ended {r : TickResult} (hr : r ≠ .running) (n : Nat) {l : Latches}
    (hl : r = .halt → l.haltBug = false) (s : State) : atBoundary (endCycle r (retire r n l s)) = true := by
  unfold atBoundary
  rcases endCycle_cur_any r (retire r n l s) with e | e <;> rw [e]
  cases r with
  | running => exact absurd rfl hr
  | finished => rfl
  | halt => simp [retire, hl]
  | stop => rfl

/-! ### Up to the boundary -/

/-- What follows an M-cycle of `runToBoundary`. -/
def onward (fuel : Nat) : Result → Result
  | .next s => if atBoundary s then .next s else runToBoundary fuel s
  | .fault r => .fault r
  | .refused r => .refused r

theorem runToBoundary_succ (fuel : Nat) (s : State) : runToBoundary (fuel + 1) s = onward fuel (systemStep s) := by
  rw [runToBoundary]
  cases systemStep s <;> rfl

/-- Between two M-cycles of one instruction the machine goes on. -/
theorem onward_midway {s : State} (h : atBoundary s = false) (fuel : Nat) :
    onward (fuel + 1) (.next s) = onward fuel (systemStep s) := by
  rw [← runToBoundary_succ]
  simp [onward, h]

/-- An object that the slot can hold, from M-cycle to M-cycle while `V` holds of its step and its latches. -/
structure SlotObject (t : Ticks) (held : Nat → Latches → Obj) (V : Nat → Latches → Prop) : Prop where
  blind : ∀ {n l}, V n l → ∀ s c, t n l (s.withSlot c) = (t n l s).withSlot c
  short : ∀ {n l}, V n l → ∀ s, (t n l s).result = .running → n < 5
  keeps : ∀ {n l}, V n l → ∀ s, (t n l s).result = .running → V (n + 1) (t n l s).latches
  midway : ∀ {n l}, V n l → ∀ s, (t n l s).result = .running →
    ∀ u : State, u.cur = some (held (n + 1) (t n l s).latches) → atBoundary u = false
  noBug : ∀ {n l}, V n l → ∀ s, (t n l s).result = .halt → (t n l s).latches.haltBug = false
  goesOn : ∀ {n l}, V n l → ∀ s, s.cur = some (held n l) → systemStep s = .next (slotCycle t held n l s)

section
variable {t : Ticks} {held : Nat → Latches → Obj} {V : Nat → Latches → Prop}

theorem SlotObject.slotCycle_withSlot (h : SlotObject t held V) {n : Nat} {l : Latches} (hV : V n l) (s : State)
    (c : Option Obj) : slotCycle t held n l (s.withSlot c) = slotCycle t held n l s := by
  unfold slotCycle
  rw [h.blind hV, slotAfter_withSlot]
  rfl

theorem SlotObject.onward_ended (h : SlotObject t held V) {n : Nat} {l : Latches} (hV : V n l) {s : State}
    (hr : (t n l s).result ≠ .running) (fuel fuel' : Nat) :
    onward fuel (.next (slotCycle t held n l s)) = .next (runTicks (fuel' + 1) t n l s) := by
  have hb : atBoundary (cycle t n l s).state = true := atBoundary_ended hr n (h.noBug hV s) _
  rw [slotCycle_ended held hr, runTicks_ended fuel' hr]
  simp [onward, hb]

/-- The machine's M-cycles with the object in the slot come to the boundary where the object's run ends, if both are
given what is left of the six M-cycles. -/
theorem SlotObject.onward_cycle (h : SlotObject t held V) {fuel fuel' n : Nat} {l : Latches} (hV : V n l) (s : State)
    (hf : 5 ≤ n + fuel) (hf' : 5 ≤ n + fuel') :
    onward fuel (.next (slotCycle t held n l s)) = .next (runTicks (fuel' + 1) t n l s) := by
  induction fuel generalizing fuel' n l s with
  | zero => exact h.onward_ended hV (fun hr => by have := h.short hV s hr; omega) 0 fuel'
  | succ fuel ih =>
    by_cases hr : (t n l s).result = .running
    · have hn := h.short hV s hr
      obtain ⟨m, rfl⟩ : ∃ m, fuel' = m + 1 := ⟨fuel' - 1, by omega⟩
      have hV' := h.keeps hV s hr
      rw [slotCycle_running held hr, onward_midway (h.midway hV s hr _ rfl), h.goesOn hV' _ rfl,
        h.slotCycle_withSlot hV', ih (fuel' := m) hV' _ (by omega) (by omega), runTicks_running (m + 1) hr]
    · exact h.onward_ended hV hr (fuel + 1) fuel'

end

/-! ### The objects of the slot -/

/-- The steps and latches of an object of a kind in the slot: a trampoline's latch is legal, and HALT's latch of the halt
bug is set between its two M-cycles only (45_system.md R301, R305). -/
def Held (k : Kind) (n : Nat) (l : Latches) : Prop := LatchLegal k l ∧ (k = .halt → l.haltBug = true → n = 1)

theorem held_fresh (k : Kind) (n : Nat) : Held k n .fresh := ⟨latchLegal_fresh k, nofun⟩

/-- HALT goes on after its first tick alone, with the halt bug's latch set, and answers HALT only with it clear (R301). -/
theorem haltTicks_running {n : Nat} {l : Latches} {s : State} (hr : (haltTicks n l s).result = .running) :
    n = 0 ∧ (haltTicks n l s).latches.haltBug = true := by
  rw [haltTicks.eq_def] at hr ⊢
  split at hr
  · dsimp only at hr ⊢
    split at hr
    · rw [if_pos ‹_›]; exact ⟨rfl, rfl⟩
    · exact nomatch hr
  · split at hr <;> exact nomatch hr
  · exact nomatch hr

theorem haltTicks_halt {n : Nat} {l : Latches} {s : State} (hl : l.haltBug = true → n = 1)
    (hr : (haltTicks n l s).result = .halt) : (haltTicks n l s).latches.haltBug = false := by
  have hclear : n ≠ 1 → l.haltBug = false := fun hn => by simpa [hn] using hl
  rw [haltTicks.eq_def] at hr ⊢
  split at hr
  · dsimp only at hr ⊢
    split at hr
    · exact nomatch hr
    · rw [if_neg ‹_›]; exact hclear (by decide)
  · split at hr
    · exact nomatch hr
    · rw [if_neg ‹_›]; simpa using ‹¬l.haltBug = true›
  · exact hclear ‹_›

theorem slotObject_kind (k : Kind) : SlotObject (kindTicks k) (.running k) (Held k) where
  blind hV s c := (kindTicks_slot _ hV.1 s c).blind
  short hV s hr := (kindTicks_paced hV.1 hr).1
  keeps hV s hr := by
    refine ⟨kindTicks_latches k _ hV.1 s, ?_⟩
    rintro rfl -
    exact congrArg (· + 1) (haltTicks_running hr).1
  midway hV s hr u hu := by
    have hp := kindTicks_paced hV.1 hr
    unfold atBoundary
    rw [hu]
    split
    case h_1 e => exact nomatch e
    case h_2 e => cases e; exact congrArg not (haltTicks_running hr).2
    case h_3 e => cases e; exact absurd rfl hp.2
    case h_4 => rfl
  noBug hV s hr := by
    obtain rfl : k = .halt := kindTicks_paced hV.1 hr
    exact haltTicks_halt (hV.2 rfl) hr
  goesOn _ s hc := by unfold systemStep; rw [hc]; rfl

/-- The tick of the ServiceRoutine, by its step: its pace is that of a kind that neither halts nor stops, as NOP's
(60_exceptions.md R324). -/
theorem serviceTicks_slot (t : Irq) (n : Nat) (l : Latches) (s : State) (c : Option Obj) :
    SlotLaw .nop n c (serviceTicks t n l s) (serviceTicks t n l (s.withSlot c)) := by
  rw [serviceTicks.eq_def, serviceTicks.eq_def]
  split <;> simp

theorem serviceTicks_latches (t : Irq) (n : Nat) (l : Latches) (s : State) : (serviceTicks t n l s).latches = l := by
  rw [serviceTicks.eq_def]
  split <;> rfl

/-- The slot keeps no latches of a ServiceRoutine, whose ticks write none. -/
theorem slotObject_service (t : Irq) :
    SlotObject (serviceTicks t) (fun n _ => .service t n) (fun _ l => l = .fresh) where
  blind _ s c := (serviceTicks_slot t _ _ s c).blind
  short {n l} _ s hr := by
    have hp := (serviceTicks_slot t n l s none).paced
    rw [hr] at hp
    exact hp.1
  keeps hV s _ := (serviceTicks_latches t _ _ s).trans hV
  midway _ s _ u hu := by unfold atBoundary; rw [hu]
  noBug hV s _ := by rw [serviceTicks_latches, hV]; rfl
  goesOn hV s hc := by subst hV; unfold systemStep; rw [hc]; rfl

theorem onward_objectCycle {k : Kind} {fuel n : Nat} {l : Latches} (hV : Held k n l) (s : State) (hf : 5 ≤ n + fuel) :
    onward fuel (.next (objectCycle k n l s)) = .next (runTicks maxCycles (kindTicks k) n l s) := by
  rw [objectCycle_eq]
  exact (slotObject_kind k).onward_cycle (fuel' := 5) hV s hf (by omega)

theorem onward_serviceCycle (t : Irq) (s : State) :
    onward 5 (.next (serviceCycle t 0 s)) = .next (runTicks maxCycles (serviceTicks t) 0 .fresh s) := by
  rw [serviceCycle_eq]
  exact (slotObject_service t).onward_cycle (fuel' := 5) rfl s (by omega) (by omega)

/-! ### The M-cycle that reads an instruction's last byte -/

theorem objectCycle_withSlot (k : Kind) (n : Nat) (s : State) (c : Option Obj) :
    objectCycle k n .fresh (s.withSlot c) = objectCycle k n .fresh s :=
  (slotObject_kind k).slotCycle_withSlot (held_fresh k n) s c

theorem firstCycle_illegal (op : Byte) (n : Nat) (s : State) : firstCycle (.illegal op) n s =
    if s.illegalFault then .fault (.illegalOpcode op) else .next (objectCycle (.illegal op) n .fresh s) := rfl

theorem firstCycle_eq {k : Kind} (h : ∀ op, k ≠ .illegal op) (n : Nat) (s : State) :
    firstCycle k n s = .next (objectCycle k n .fresh s) := by
  cases k with
  | illegal op => exact absurd rfl (h op)
  | _ => rfl

theorem firstCycle_withSlot (k : Kind) (n : Nat) (s : State) (c : Option Obj) :
    firstCycle k n (s.withSlot c) = firstCycle k n s := by
  by_cases h : ∃ op, k = .illegal op
  · obtain ⟨op, rfl⟩ := h
    rw [firstCycle_illegal, firstCycle_illegal, objectCycle_withSlot, withSlot_illegalFault]
  · rw [firstCycle_eq fun op e => h ⟨op, e⟩, firstCycle_eq fun op e => h ⟨op, e⟩, objectCycle_withSlot]

/-- From the M-cycle that reads its last byte on, the machine's M-cycles are the instruction. -/
theorem onward_firstCycle {k : Kind} {fuel n : Nat} (hn : immediateBytes k = n) (s : State) (hf : 5 ≤ n + fuel) :
    onward fuel (firstCycle k n s) = performKind k s := by
  subst hn
  have hrun := onward_objectCycle (held_fresh k (immediateBytes k)) s hf
  by_cases h : ∃ op, k = .illegal op
  · obtain ⟨op, rfl⟩ := h
    rw [firstCycle_illegal, performKind_illegal]
    split
    · rfl
    · exact hrun
  · rw [firstCycle_eq fun op e => h ⟨op, e⟩, performKind_eq fun op e => h ⟨op, e⟩, hrun]

/-! ### The trampoline (45_system.md R305) -/

/-- A tick of a CB instruction: its first advances PC past the two bytes, the object goes on or ends, and no tick reads or
writes the trampoline's latch. -/
structure CbTick (n : Nat) (l : Latches) (s : State) (t : Ticks) : Prop where
  first : n = 0 → t n l s = .more (s.advancePc 2) l
  goesOnOrEnds : ∃ s' l', (t n l s = .more s' l' ∧ ∀ x, t n { l with sub := x } s = .more s' { l' with sub := x }) ∨
    (t n l s = .last s' l' ∧ ∀ x, t n { l with sub := x } s = .last s' { l' with sub := x })

theorem cbRegTicks_law (f : Regs → Regs) (n : Nat) (l : Latches) (s : State) : CbTick n l s (cbRegTicks f) :=
  match n with
  | 0 => ⟨fun _ => rfl, _, _, .inl ⟨rfl, fun _ => rfl⟩⟩
  | 1 | _ + 2 => ⟨nofun, _, _, .inr ⟨rfl, fun _ => rfl⟩⟩

theorem cbMemTicks_law (res : Regs → Byte → Byte) (flags : Regs → Byte → Regs) (n : Nat) (l : Latches) (s : State) :
    CbTick n l s (cbMemTicks res flags) :=
  match n with
  | 0 => ⟨fun _ => rfl, _, _, .inl ⟨rfl, fun _ => rfl⟩⟩
  | 1 | 2 => ⟨nofun, _, _, .inl ⟨rfl, fun _ => rfl⟩⟩
  | 3 | _ + 4 => ⟨nofun, _, _, .inr ⟨rfl, fun _ => rfl⟩⟩

theorem bitMemHlTicks_law (b : Fin 8) (n : Nat) (l : Latches) (s : State) : CbTick n l s (bitMemHlTicks b) :=
  match n with
  | 0 => ⟨fun _ => rfl, _, _, .inl ⟨rfl, fun _ => rfl⟩⟩
  | 1 => ⟨nofun, _, _, .inl ⟨rfl, fun _ => rfl⟩⟩
  | 2 | _ + 3 => ⟨nofun, _, _, .inr ⟨rfl, fun _ => rfl⟩⟩

theorem cbTick_of_isCbKind {k : Kind} (h : isCbKind k = true) (n : Nat) (l : Latches) (s : State) :
    CbTick n l s (tableTicks k) := by
  cases k with
  | rotR | bitR | resR | setR =>
    simp only [tableTicks, rotRTicks, bitRTicks, resRTicks, setRTicks]
    exact cbRegTicks_law _ n l s
  | rotMemHl | resMemHl | setMemHl =>
    simp only [tableTicks, rotMemHlTicks, resMemHlTicks, setMemHlTicks]
    exact cbMemTicks_law _ _ n l s
  | bitMemHl b => exact bitMemHlTicks_law b n l s
  | _ => exact nomatch h

/-- From its second M-cycle on, the trampoline's run is its sub-instruction's. -/
theorem runTicks_trampoline {k : Kind} (h : isCbKind k = true) (fuel n : Nat) (l : Latches) (s : State) :
    runTicks fuel prefixCbTicks (n + 1) { l with sub := some k } s = runTicks fuel (tableTicks k) (n + 1) l s := by
  induction fuel generalizing n l s with
  | zero => rfl
  | succ fuel ih =>
    obtain ⟨s', l', ⟨hl, hsub⟩ | ⟨hl, hsub⟩⟩ := (cbTick_of_isCbKind h (n + 1) l s).goesOnOrEnds
    · have hp : prefixCbTicks (n + 1) { l with sub := some k } s = .more s' { l' with sub := some k } := hsub (some k)
      rw [runTicks_more hl, runTicks_more hp, ih]
    · have hp : prefixCbTicks (n + 1) { l with sub := some k } s = .last s' { l' with sub := some k } := hsub (some k)
      rw [runTicks_last hl, runTicks_last hp]

/-- An instruction of the CB table is the run of its object from the M-cycle of its 0xCB on. -/
theorem performKind_of_isCbKind {k : Kind} (h : isCbKind k = true) (s : State) :
    performKind k s = .next (runTicks maxCycles (tableTicks k) 0 .fresh s) := by
  cases k with
  | rotR | rotMemHl | bitR | bitMemHl | resR | resMemHl | setR | setMemHl => rfl
  | _ => exact nomatch h

/-- The trampoline runs the CB instruction of the byte after it (R305). -/
theorem performKind_prefixCb (s : State) :
    performKind .prefixCb s = exec (decodeOpcodePrefix (cpuRead s (s.regs.pc + 1))) s := by
  have h := isCbKind_decodeOpcodePrefix (cpuRead s (s.regs.pc + 1))
  have hfirst := (cbTick_of_isCbKind h 0 .fresh s).first rfl
  rw [exec_eq_performKind, performKind_of_isCbKind h]
  show Host.Outcome.next (runTicks maxCycles prefixCbTicks 0 .fresh s) = _
  rw [maxCycles, runTicks_more hfirst, ← runTicks_trampoline h]
  exact congrArg _ (runTicks_more rfl)

/-! ### The fetch (40_execution_cycle.md R135, R136, R138) -/

theorem step_fetch {s : State} (hc : s.cur = none) (hirq : dueIrq s = none) :
    step s = exec (fetchInstr s).instr (fetchInstr s).state := by
  unfold step; rw [hc]; dsimp only; rw [hirq]

/-- The byte at PC + 1 is read one M-cycle after the opcode, and that at PC + 2 another one later. -/
theorem fetchInstr_op {s : State} {i : Instr} (h : decodeOpcode (cpuRead s s.regs.pc) = .op i) :
    fetchInstr s = ⟨i, s⟩ := by
  unfold fetchInstr; rw [h]; rfl
theorem fetchInstr_cbPrefix {s : State} (h : decodeOpcode (cpuRead s s.regs.pc) = .cbPrefix) :
    fetchInstr s = ⟨decodeOpcodePrefix (cpuRead s (s.regs.pc + 1)), s⟩ := by
  unfold fetchInstr; rw [h]; rfl
theorem fetchInstr_op8 {s : State} {mk : Byte → Instr} (h : decodeOpcode (cpuRead s s.regs.pc) = .op8 mk) :
    fetchInstr s = ⟨mk (cpuRead (idle 1 s) (s.regs.pc + 1)), idle 1 s⟩ := by
  unfold fetchInstr; rw [h, ← idle_regs 1 s]; rfl
theorem fetchInstr_op16 {s : State} {mk : Word → Instr} (h : decodeOpcode (cpuRead s s.regs.pc) = .op16 mk) :
    fetchInstr s = ⟨mk (joinBytes (cpuRead (idle 2 s) (s.regs.pc + 2)) (cpuRead (idle 1 s) (s.regs.pc + 1))), idle 2 s⟩ := by
  have h1 : (idle 1 s).regs = s.regs := idle_regs 1 s
  have h2 : (idle 2 s).regs = s.regs := idle_regs 2 s
  unfold fetchInstr; rw [h]
  show Fetched.mk (mk (joinBytes (cpuRead (idle 2 s) ((idle 2 s).regs.pc + 2)) (cpuRead (idle 1 s) ((idle 1 s).regs.pc + 1))))
    (idle 2 s) = _
  rw [h1, h2]

/-- An M-cycle that reads an immediate byte but not the last leaves an idle M-cycle's state, the fetch in the slot. -/
theorem fetchCycle_eq (op : Byte) (lo : Option Byte) (s : State) :
    fetchCycle op lo s = (idle 1 s).withSlot (some (.fetching op lo)) := endCycle_withSlot s _

theorem systemStep_fetching {s : State} {op : Byte} {lo : Option Byte} (hc : s.cur = some (.fetching op lo)) :
    systemStep s = immediateStep op lo s := by
  unfold systemStep; rw [hc]

/-- A fetch that waits for its next byte goes on in the next M-cycle. -/
theorem onward_fetchCycle (fuel : Nat) (op : Byte) (lo : Option Byte) (s : State) :
    onward (fuel + 1) (.next (fetchCycle op lo s)) =
      onward fuel (immediateStep op lo ((idle 1 s).withSlot (some (.fetching op lo)))) := by
  rw [fetchCycle_eq, onward_midway rfl, systemStep_fetching rfl]

section
variable {s : State} {op : Byte} {mk8 : Byte → Instr} {mk16 : Word → Instr}

theorem fetchStep_op {i : Instr} (h : decodeOpcode (cpuRead s s.regs.pc) = .op i) :
    fetchStep s = firstCycle i.kind 0 s := by
  simp only [fetchStep, h]
theorem fetchStep_cbPrefix (h : decodeOpcode (cpuRead s s.regs.pc) = .cbPrefix) :
    fetchStep s = firstCycle .prefixCb 0 s := by
  simp only [fetchStep, h]
theorem fetchStep_op8 (h : decodeOpcode (cpuRead s s.regs.pc) = .op8 mk8) :
    fetchStep s = .next (fetchCycle (cpuRead s s.regs.pc) none s) := by
  simp only [fetchStep, h]
theorem fetchStep_op16 (h : decodeOpcode (cpuRead s s.regs.pc) = .op16 mk16) :
    fetchStep s = .next (fetchCycle (cpuRead s s.regs.pc) none s) := by
  simp only [fetchStep, h]

theorem immediateStep_op8 (h : decodeOpcode op = .op8 mk8) :
    immediateStep op none s = firstCycle (mk8 (cpuRead s (s.regs.pc + 1))).kind 1 s := by
  simp only [immediateStep, h]
theorem immediateStep_op16_none (h : decodeOpcode op = .op16 mk16) :
    immediateStep op none s = .next (fetchCycle op (some (cpuRead s (s.regs.pc + 1))) s) := by
  simp only [immediateStep, h]
theorem immediateStep_op16_some (h : decodeOpcode op = .op16 mk16) (lo : Byte) :
    immediateStep op (some lo) s = firstCycle (mk16 (joinBytes (cpuRead s (s.regs.pc + 2)) lo)).kind 2 s := by
  simp only [immediateStep, h]

end

theorem fetchCycle_withSlot (op : Byte) (lo : Option Byte) (s : State) (c : Option Obj) :
    fetchCycle op lo (s.withSlot c) = fetchCycle op lo s := rfl

/-- The machine's M-cycles from the opcode's fetch on are the instruction fetched. -/
theorem onward_fetchStep (s : State) :
    onward 5 (fetchStep s) = exec (fetchInstr s).instr (fetchInstr s).state := by
  have himm := immediatesOfFormat_decodeOpcode (cpuRead s s.regs.pc)
  cases h : decodeOpcode (cpuRead s s.regs.pc) with
  | op i =>
    rw [h] at himm
    rw [fetchStep_op h, fetchInstr_op h, exec_eq_performKind]
    exact onward_firstCycle (fuel := 5) himm s (by omega)
  | cbPrefix =>
    rw [fetchStep_cbPrefix h, fetchInstr_cbPrefix h, ← performKind_prefixCb]
    exact onward_firstCycle (fuel := 5) rfl s (by omega)
  | op8 mk =>
    rw [h] at himm
    rw [fetchStep_op8 h, fetchInstr_op8 h, exec_eq_performKind, onward_fetchCycle, immediateStep_op8 h, firstCycle_withSlot,
      cpuRead_withSlot, withSlot_regs, idle_regs]
    exact onward_firstCycle (fuel := 4) (himm _) (idle 1 s) (by omega)
  | op16 mk =>
    rw [h] at himm
    rw [fetchStep_op16 h, fetchInstr_op16 h, exec_eq_performKind, onward_fetchCycle, immediateStep_op16_none h,
      fetchCycle_withSlot, cpuRead_withSlot, withSlot_regs, idle_regs, onward_fetchCycle, immediateStep_op16_some h,
      firstCycle_withSlot, cpuRead_withSlot, withSlot_regs, idle_regs, idle_regs, ← idle_add]
    exact onward_firstCycle (fuel := 3) (himm _) (idle 2 s) (by omega)

/-! ### What was decoded from one, two or three bytes, with none left (30_encoding.md R100, R111, R112) -/

theorem decodeOpcode_of_decode_one {op : Byte} {i : Instr} (hop : op ≠ 0xCB) (h : decode [op] = .ok (i, [])) :
    decodeOpcode op = .op i := by
  cases e : decodeOpcode op with
  | op j => rw [decode_op e] at h; cases h; rfl
  | op8 mk | op16 mk => simp [decode, e] at h
  | cbPrefix => exact absurd (eq_of_decodeOpcode_cbPrefix e) hop

theorem decodeOpcode_of_decode_two {op n : Byte} {i : Instr} (hop : op ≠ 0xCB) (h : decode [op, n] = .ok (i, [])) :
    ∃ mk, decodeOpcode op = .op8 mk ∧ i = mk n := by
  cases e : decodeOpcode op with
  | op j => rw [decode_op e] at h; exact nomatch h
  | op8 mk => rw [decode_op8 e] at h; cases h; exact ⟨mk, rfl, rfl⟩
  | op16 mk => simp [decode, e] at h
  | cbPrefix => exact absurd (eq_of_decodeOpcode_cbPrefix e) hop

theorem decodeOpcode_of_decode_three {op lo hi : Byte} {i : Instr} (h : decode [op, lo, hi] = .ok (i, [])) :
    ∃ mk, decodeOpcode op = .op16 mk ∧ i = mk (joinBytes hi lo) := by
  cases e : decodeOpcode op with
  | op j => rw [decode_op e] at h; exact nomatch h
  | op8 mk => rw [decode_op8 e] at h; exact nomatch h
  | op16 mk => rw [decode_op16 e] at h; cases h; exact ⟨mk, rfl, rfl⟩
  | cbPrefix => rw [decode_cbPrefix e] at h; exact nomatch h

/-! ### A step is the M-cycles up to the next boundary -/

theorem onward_systemStep {s : State} (h : atBoundary s = true) : onward 5 (systemStep s) = step s := by
  unfold atBoundary at h
  split at h
  case h_1 hc =>
    cases hirq : dueIrq s with
    | none =>
      rw [step_fetch hc hirq, ← onward_fetchStep]
      unfold systemStep; rw [hc]; dsimp only; rw [hirq]
    | some t =>
      unfold step systemStep; rw [hc]; dsimp only; rw [hirq]
      exact onward_serviceCycle t (acceptIrq t s)
  case h_2 n l hc =>
    have hV : Held .halt n l := ⟨nofun, fun _ hbug => by rw [hbug] at h; exact nomatch h⟩
    unfold step systemStep; rw [hc]
    exact onward_objectCycle (fuel := 5) hV s (by omega)
  case h_3 n l hc =>
    have hV : Held .stop n l := ⟨nofun, nofun⟩
    unfold step systemStep; rw [hc]
    exact onward_objectCycle (fuel := 5) hV s (by omega)
  case h_4 => exact nomatch h

end Sys2Proof.Machine

section
open Sys2Proof Sys2Proof.Machine

/-- Settles O9: from a boundary each M-cycle has in the slot the object that the step runs outside it, and the fetch adds an
M-cycle for each immediate byte before the last. -/
theorem stepIsTheSystemStepsToTheBoundary : Obligations.StepIsTheSystemStepsToTheBoundary := by
  intro s h
  rw [maxCycles, runToBoundary_succ, onward_systemStep h]

/-- Settles O6: the fetch follows the format of the opcode's entry, and so does the decoder. -/
theorem stepRunsTheDecodedInstruction : Obligations.StepRunsTheDecodedInstruction := by
  intro s i hc hirq
  rw [step_fetch hc hirq]
  refine ⟨fun hop h => ?_, fun hop h => ?_, fun hop h => ?_, fun h => ?_⟩
  · rw [fetchInstr_op (decodeOpcode_of_decode_one hop h)]
  · rw [decode_cbPrefix rfl] at h
    cases h
    rw [fetchInstr_cbPrefix (by rw [hop]; rfl)]
  · obtain ⟨mk, hmk, rfl⟩ := decodeOpcode_of_decode_two hop h
    rw [fetchInstr_op8 hmk]
  · obtain ⟨mk, hmk, rfl⟩ := decodeOpcode_of_decode_three h
    rw [fetchInstr_op16 hmk]

end
end

section
/-! The bytes of an instruction by its kind (30_encoding.md R100, R103 to R109), and the run of an object M-cycle by M-cycle
when its ticks write the register file and memory only (40_execution_cycle.md R130 to R136). -/

namespace Sys2Proof

open Claims

/-! ### The encoding by kind -/

/-- The bytes of an instruction of a kind, each operand as the field the rules give it (30_encoding.md R103 to R109). -/
def Kind.bytes : Kind → List Byte
  | .nop => [0x00]
  | .halt => [0x76]
  | .stop => [0x10]
  | .di => [0xF3]
  | .ei => [0xFB]
  | .illegal op => [op]
  | .prefixCb => [0xCB]
  | .ldRR dst src => [0x40 + 8 * code8 dst + code8 src]
  | .ldRN dst n => [0x06 + 8 * code8 dst, n]
  | .ldRMemHl dst => [0x46 + 8 * code8 dst]
  | .ldMemHlR src => [0x70 + code8 src]
  | .ldMemHlN n => [0x36, n]
  | .ldAInd m => [0x0A + 16 * codePtr m]
  | .ldIndA m => [0x02 + 16 * codePtr m]
  | .ldAAbs nn => [0xFA, loByte nn, hiByte nn]
  | .ldAbsA nn => [0xEA, loByte nn, hiByte nn]
  | .ldhAN n => [0xF0, n]
  | .ldhNA n => [0xE0, n]
  | .ldAMemC => [0xF2]
  | .ldMemCA => [0xE2]
  | .ldRRN p nn => [0x01 + 16 * code16 p, loByte nn, hiByte nn]
  | .ldAbsSp nn => [0x08, loByte nn, hiByte nn]
  | .ldSpHl => [0xF9]
  | .ldHlSpE e => [0xF8, e]
  | .push q => [0xC5 + 16 * codeStk q]
  | .pop q => [0xC1 + 16 * codeStk q]
  | .aluR o r => [0x80 + 8 * codeAlu o + code8 r]
  | .aluMemHl o => [0x86 + 8 * codeAlu o]
  | .aluN o n => [0xC6 + 8 * codeAlu o, n]
  | .incR r => [0x04 + 8 * code8 r]
  | .incMemHl => [0x34]
  | .decR r => [0x05 + 8 * code8 r]
  | .decMemHl => [0x35]
  | .incRR p => [0x03 + 16 * code16 p]
  | .decRR p => [0x0B + 16 * code16 p]
  | .addHl p => [0x09 + 16 * code16 p]
  | .addSp e => [0xE8, e]
  | .daa => [0x27]
  | .cpl => [0x2F]
  | .scf => [0x37]
  | .ccf => [0x3F]
  | .rotA k => [0x07 + 8 * codeRot k]
  | .rotR k r => [0xCB, 8 * codeRot k + code8 r]
  | .rotMemHl k => [0xCB, 0x06 + 8 * codeRot k]
  | .bitR b r => [0xCB, 0x40 + 8 * codeBit b + code8 r]
  | .bitMemHl b => [0xCB, 0x46 + 8 * codeBit b]
  | .resR b r => [0xCB, 0x80 + 8 * codeBit b + code8 r]
  | .resMemHl b => [0xCB, 0x86 + 8 * codeBit b]
  | .setR b r => [0xCB, 0xC0 + 8 * codeBit b + code8 r]
  | .setMemHl b => [0xCB, 0xC6 + 8 * codeBit b]
  | .jp nn => [0xC3, loByte nn, hiByte nn]
  | .jpCc cc nn => [0xC2 + 8 * codeCond cc, loByte nn, hiByte nn]
  | .jpHl => [0xE9]
  | .jr e => [0x18, e]
  | .jrCc cc e => [0x20 + 8 * codeCond cc, e]
  | .call nn => [0xCD, loByte nn, hiByte nn]
  | .callCc cc nn => [0xC4 + 8 * codeCond cc, loByte nn, hiByte nn]
  | .ret => [0xC9]
  | .retCc cc => [0xC0 + 8 * codeCond cc]
  | .reti => [0xD9]
  | .rst t => [0xC7 + 8 * codeBit t]

theorem encode_eq_bytes (i : Instr) : encode i = i.kind.bytes := by cases i <;> rfl

theorem encode_of_kind {i : Instr} {k : Kind} (h : i.kind = k) : encode i = k.bytes := by rw [encode_eq_bytes, h]

namespace Machine

/-! ### The run of an object

The state of a run is written `(idle m s).setRegs g`: what the timer, the environment and the DMA controller made of `s` in
`m` M-cycles, with the register file `g`. -/

theorem idle_setRegs (n : Nat) (s : State) (g : Regs) : idle n (s.setRegs g) = (idle n s).setRegs g := by
  rw [setRegs_eq, idle_withCpu, setRegs_eq, idle_ime, idle_cur]

theorem cpuWrite_setRegs (s : State) (g : Regs) (a : Word) (v : Byte) :
    cpuWrite (s.setRegs g) a v = (cpuWrite s a v).setRegs g := by
  rw [setRegs_eq, cpuWrite_withCpu, setRegs_eq, cpuWrite_ime, cpuWrite_cur]

/-- An instruction of a kind that is no unassigned opcode answers what the run of its object ends in. -/
theorem exec_eq_next {i : Instr} {k : Kind} {s t : State} (h : i.kind = k) (hk : ∀ op, k ≠ .illegal op)
    (hrun : runTicks maxCycles (kindTicks k) (immediateBytes k) .fresh ((idle 0 s).setRegs s.regs) = t) :
    exec i s = .next t := by
  rw [exec_eq_performKind, h, performKind_eq hk]
  exact congrArg _ hrun

section
variable {t : Ticks} {fuel n m : Nat} {l : Latches} {l' : State → Latches} {s : State} {g : Regs} {g' : State → Regs}

/-- An M-cycle that leaves more to come and writes the register file only. -/
theorem runTicks_more_regs (h : ∀ u : State, t n l (u.setRegs g) = .more (u.setRegs (g' u)) (l' u)) :
    runTicks (fuel + 1) t n l ((idle m s).setRegs g) =
      runTicks fuel t (n + 1) (l' (idle m s)) ((idle (m + 1) s).setRegs (g' (idle m s))) := by
  rw [runTicks_more (h _), idle_add m 1 s, ← idle_setRegs 1]
  rfl

/-- The last M-cycle of an object: what its tick did besides writing the register file stands in `u`. -/
theorem runTicks_last_setRegs {u : State} {g' : Regs} {l' : Latches} (h : t n l s = .last (u.setRegs g') l') :
    runTicks (fuel + 1) t n l s = { idle 1 u with regs := g', cur := none } :=
  calc runTicks (fuel + 1) t n l s
      = idle 1 (u.withCpu g' u.ime none) := runTicks_last h
    _ = (idle 1 u).withCpu g' (idle 1 u).ime none := by rw [idle_withCpu, idle_ime]

/-- A last M-cycle that writes the register file only. -/
theorem runTicks_last_regs {r : Regs} (h : ∀ u : State, t n l (u.setRegs g) = .last (u.setRegs (g' u)) (l' u))
    (hr : g' (idle m s) = r) :
    runTicks (fuel + 1) t n l ((idle m s).setRegs g) = { idle (m + 1) s with regs := r, cur := none } := by
  rw [runTicks_last_setRegs (h _), idle_add, hr]

/-- A last M-cycle that stores a byte and then writes the register file. -/
theorem runTicks_last_store {f : Regs → Regs} {r : Regs} {a : Word} {v : Byte}
    (h : ∀ u : State, t n l (u.setRegs g) = .last ((cpuWrite (u.setRegs g) a v).setRegs
      (f (cpuWrite (u.setRegs g) a v).regs)) (l' u)) (hr : f g = r) :
    runTicks (fuel + 1) t n l ((idle m s).setRegs g) =
      { idle 1 (cpuWrite (idle m s) a v) with regs := r, cur := none } := by
  have hu := h (idle m s)
  rw [cpuWrite_regs, cpuWrite_setRegs] at hu
  rw [runTicks_last_setRegs (u := cpuWrite (idle m s) a v) hu, ← hr]
  rfl

end

end Machine

end Sys2Proof
end

section
/-! The flags as F holds them (10_state.md R22, R23), and what each operation of 41_alu.md computes, in the terms of its
rule: the two-step carries against the single-step ones (R160, R161), A and F after each operation (R163 to R182). -/

namespace Sys2Proof.Machine

open Claims

/-! ### F as its four flags (10_state.md R22, R23) -/

/-- The register file with the four flags given and F's low nibble zero. -/
def Regs.withFlags (r : Regs) (z n h c : Bool) : Regs := { r with f := flagByte z n h c }

section
variable (r : Regs) (z n h c b : Bool)

@[simp] theorem setZf_withFlags : (r.withFlags z n h c).setZf b = r.withFlags b n h c := by
  have bits : ∀ z n h c b, (if b then flagByte z n h c ||| 0x80 else flagByte z n h c &&& 0x7F) = flagByte b n h c := by
    decide
  exact congrArg (fun f => { r with f := f }) (bits z n h c b)

@[simp] theorem setNf_withFlags : (r.withFlags z n h c).setNf b = r.withFlags z b h c := by
  have bits : ∀ z n h c b, (if b then flagByte z n h c ||| 0x40 else flagByte z n h c &&& 0xBF) = flagByte z b h c := by
    decide
  exact congrArg (fun f => { r with f := f }) (bits z n h c b)

@[simp] theorem setHf_withFlags : (r.withFlags z n h c).setHf b = r.withFlags z n b c := by
  have bits : ∀ z n h c b, (if b then flagByte z n h c ||| 0x20 else flagByte z n h c &&& 0xDF) = flagByte z n b c := by
    decide
  exact congrArg (fun f => { r with f := f }) (bits z n h c b)

@[simp] theorem setCf_withFlags : (r.withFlags z n h c).setCf b = r.withFlags z n h b := by
  have bits : ∀ z n h c b, (if b then flagByte z n h c ||| 0x10 else flagByte z n h c &&& 0xEF) = flagByte z n h b := by
    decide
  exact congrArg (fun f => { r with f := f }) (bits z n h c b)

end

/-- With its low nibble zero, F is its four flags. -/
theorem eq_withFlags {r : Regs} (low : r.f &&& 0x0F = 0) : r = r.withFlags r.zf r.nf r.hf r.cf := by
  have bits : ∀ f : Byte, f &&& 0x0F = 0 →
      f = flagByte (f.getLsbD 7) (f.getLsbD 6) (f.getLsbD 5) (f.getLsbD 4) := by decide
  exact congrArg (fun f => { r with f := f }) (bits r.f low)

section
variable {r : Regs} (low : r.f &&& 0x0F = 0)
include low

theorem setZf_eq_withFlags (b : Bool) : r.setZf b = r.withFlags b r.nf r.hf r.cf :=
  (congrArg (·.setZf b) (eq_withFlags low)).trans (setZf_withFlags ..)

theorem setNf_eq_withFlags (b : Bool) : r.setNf b = r.withFlags r.zf b r.hf r.cf :=
  (congrArg (·.setNf b) (eq_withFlags low)).trans (setNf_withFlags ..)

theorem setFlags_eq_withFlags (z n h c : Bool) : r.setFlags z n h c = r.withFlags z n h c := by
  rw [Regs.setFlags, setZf_eq_withFlags low, setNf_withFlags, setHf_withFlags, setCf_withFlags]

end

/-! ### The two-step carries (R160, R161) -/

theorem add8_res (a b : Byte) (c : Bool) : (add8 a b c).res = a + b + (if c then 1 else 0) := by
  apply BitVec.eq_of_toNat_eq
  cases c <;> simp [add8]

theorem add8_h (a b : Byte) (c : Bool) :
    (add8 a b c).h = decide (a.toNat % 16 + b.toNat % 16 + c.toNat > 15) := by
  unfold add8
  dsimp only
  rw [← Bool.decide_or, decide_eq_decide]
  have := c.toNat_lt
  omega

theorem add8_c (a b : Byte) (c : Bool) : (add8 a b c).c = decide (a.toNat + b.toNat + c.toNat > 255) := by
  unfold add8
  dsimp only
  rw [← Bool.decide_or, decide_eq_decide]
  have := c.toNat_lt
  omega

theorem add8_eq_sum8 (a b : Byte) (c : Bool) :
    ((add8 a b c).res, flagByte (add8 a b c).z (add8 a b c).n (add8 a b c).h (add8 a b c).c) = sum8 a b c := by
  have z : (add8 a b c).z = decide ((add8 a b c).res = 0) := rfl
  rw [z, add8_h, add8_c, add8_res]
  rfl

theorem sub8_res (a b : Byte) (c : Bool) : (sub8 a b c).res = a - b - (if c then 1 else 0) := by
  cases c <;> rfl

theorem sub8_h (a b : Byte) (c : Bool) :
    (sub8 a b c).h = decide (a.toNat % 16 < b.toNat % 16 + c.toNat) := by
  unfold sub8
  dsimp only
  rw [← Bool.decide_or, decide_eq_decide, BitVec.toNat_sub]
  have := c.toNat_lt
  have := b.isLt
  omega

theorem sub8_c (a b : Byte) (c : Bool) : (sub8 a b c).c = decide (a.toNat < b.toNat + c.toNat) := by
  unfold sub8
  dsimp only
  rw [← Bool.decide_or, decide_eq_decide, BitVec.toNat_sub]
  have := c.toNat_lt
  have := a.isLt
  have := b.isLt
  omega

theorem sub8_eq_diff8 (a b : Byte) (c : Bool) :
    ((sub8 a b c).res, flagByte (sub8 a b c).z (sub8 a b c).n (sub8 a b c).h (sub8 a b c).c) = diff8 a b c := by
  have z : (sub8 a b c).z = decide ((sub8 a b c).res = 0) := rfl
  rw [z, sub8_h, sub8_c, sub8_res]
  rfl

/-! ### The 8-bit operations on A (R162 to R170) -/

/-- The single-step forms are what the model computes; CP alone keeps A (R170). -/
theorem aluAF_eq (o : AluOp) (a v : Byte) (cf : Bool) : aluAF o a v cf =
    (if writesA o then (aluOut o a v cf).res else a,
      flagByte (aluOut o a v cf).z (aluOut o a v cf).n (aluOut o a v cf).h (aluOut o a v cf).c) := by
  cases o with
  | add => exact (add8_eq_sum8 a v false).symm
  | adc => exact (add8_eq_sum8 a v cf).symm
  | sub => exact (sub8_eq_diff8 a v false).symm
  | sbc => exact (sub8_eq_diff8 a v cf).symm
  | and | xor | or => rfl
  | cp => exact congrArg (fun out => (a, out.2)) (sub8_eq_diff8 a v false).symm

/-! ### DAA (R177) -/

theorem daaAdjust_after_sub (a : Byte) (h c : Bool) :
    daaAdjust a true h c = (a + (0 - ((if c then 0x60 else 0) + (if h then 0x06 else 0))), c) := by
  simp only [daaAdjust, if_true]
  congr 1
  cases c <;> cases h <;> simp <;> bv_omega

/-- The first adjustment of R177 leaves the low digit the second one looks at. -/
theorem lowDigit_add_0x60 (a : Byte) (adj : Bool) : (if adj then a + 0x60 else a).toNat % 16 = a.toNat % 16 := by
  cases adj
  · rfl
  · simp
    omega

theorem daaAdjust_after_add (a : Byte) (h c : Bool) : daaAdjust a false h c =
    (a + ((if c || decide (0x9A ≤ a.toNat) then 0x60 else 0) + (if h || decide (9 < a.toNat % 16) then 0x06 else 0)),
      c || decide (0x9A ≤ a.toNat)) := by
  simp only [daaAdjust, Bool.false_eq_true, if_false, lowDigit_add_0x60]
  show (if h || decide (9 < a.toNat % 16) then _ else _, c || decide (0x9A ≤ a.toNat)) = _
  congr 1
  split <;> split <;> simp [BitVec.add_assoc]

/-! ### The register file after each operation -/

/-- Z and H of INC, read off the old byte (R171). -/
theorem incFlags_conditions (v : Byte) :
    (v + 1 == 0) = decide (v = 0xFF) ∧ (v.toNat % 16 == 0xF) = decide (v % 16 = 15) := by
  revert v; decide

/-- Z and H of DEC, read off the old byte (R172). -/
theorem decFlags_conditions (v : Byte) :
    (v - 1 == 0) = decide (v = 1) ∧ (v.toNat % 16 == 0) = decide (v % 16 = 0) := by
  revert v; decide

theorem set8_cf (r : Regs) (x : R8) (v : Byte) : (r.set8 x v).cf = r.cf := congrArg (·.getLsbD 4) (set8_f r x v)

section
variable {r : Regs} (low : r.f &&& 0x0F = 0)
include low

theorem alu_eq_aluAF (o : AluOp) (v : Byte) :
    r.alu o v = { r with a := (aluAF o r.a v r.cf).1, f := (aluAF o r.a v r.cf).2 } := by
  rw [aluAF_eq, Regs.alu, setFlags_eq_withFlags low]
  dsimp only
  split <;> rfl

theorem incFlags_eq (v : Byte) : r.incFlags v = { r with f := flagByte (v = 0xFF) false (v % 16 = 15) r.cf } := by
  obtain ⟨hz, hh⟩ := incFlags_conditions v
  rw [Regs.incFlags, setZf_eq_withFlags low, setNf_withFlags, setHf_withFlags, hz, hh]
  rfl

theorem decFlags_eq (v : Byte) : r.decFlags v = { r with f := flagByte (v = 1) true (v % 16 = 0) r.cf } := by
  obtain ⟨hz, hh⟩ := decFlags_conditions v
  rw [Regs.decFlags, setZf_eq_withFlags low, setNf_withFlags, setHf_withFlags, hz, hh]
  rfl

theorem incFlags_set8 (x : R8) (w v : Byte) : (r.set8 x w).incFlags v =
    { r.set8 x w with f := flagByte (v = 0xFF) false (v % 16 = 15) r.cf } := by
  rw [incFlags_eq (by rwa [set8_f]), set8_cf]

theorem decFlags_set8 (x : R8) (w v : Byte) : (r.set8 x w).decFlags v =
    { r.set8 x w with f := flagByte (v = 1) true (v % 16 = 0) r.cf } := by
  rw [decFlags_eq (by rwa [set8_f]), set8_cf]

theorem addHl_eq (v : Word) : r.addHl v =
    { r.setHl (r.hl + v) with
      f := flagByte r.zf false (r.hl.toNat % 4096 + v.toNat % 4096 > 4095) (r.hl.toNat + v.toNat > 65535) } := by
  rw [Regs.addHl, setNf_eq_withFlags low, setHf_withFlags, setCf_withFlags]
  rfl

theorem spaddFlags_eq (sp : Word) (e : Byte) : r.spaddFlags sp e = { r with f := spFlags sp e } :=
  setFlags_eq_withFlags low ..

theorem daa_eq : r.daa =
    { r with a := (daaAdjust r.a r.nf r.hf r.cf).1
             f := flagByte ((daaAdjust r.a r.nf r.hf r.cf).1 = 0) r.nf false (daaAdjust r.a r.nf r.hf r.cf).2 } := by
  rw [Regs.daa, setZf_eq_withFlags (r := { r with a := (daaAdjust r.a r.nf r.hf r.cf).1 }) low, setHf_withFlags,
    setCf_withFlags]
  rfl

theorem cpl_eq : r.cpl = { r with a := 0xFF - r.a, f := flagByte r.zf true true r.cf } := by
  rw [Regs.cpl, setNf_eq_withFlags (r := { r with a := ~~~r.a }) low, setHf_withFlags, ← BitVec.allOnes_sub_eq_not]
  rfl

theorem scf_eq : r.scf = { r with f := flagByte r.zf false false true } := by
  rw [Regs.scf, setNf_eq_withFlags low, setHf_withFlags, setCf_withFlags]
  rfl

theorem ccf_eq : r.ccf = { r with f := flagByte r.zf false false (!r.cf) } := by
  rw [Regs.ccf, setNf_eq_withFlags low, setHf_withFlags, setCf_withFlags]
  rfl

end

/-! ### PC besides an operation -/

theorem get16_setPc (r : Regs) (p : R16) (a : Word) : ({ r with pc := a } : Regs).get16 p = r.get16 p := by
  cases p <;> rfl

/-- A one-cycle object advances PC after its operation. -/
theorem advancePc_congr {g r : Regs} (h : g = r) :
    ({ g with pc := g.pc + 1 } : Regs) = { r with pc := r.pc + 1 } := by rw [h]

end Sys2Proof.Machine

/-! ### The statements of 41_alu.md

Each clause runs the object of its kind, a line for each M-cycle, and then compares the register file it ends with. -/

section
open Sys2Proof Sys2Proof.Machine

/-- Settles O21: both objects end with the flags of `spadd` on the register file that PC has been advanced in. -/
theorem stackPointerSums : Obligations.StackPointerSums := by
  refine ⟨fun i e h => ⟨encode_of_kind h, fun s low => exec_eq_next h nofun ?_⟩,
    fun i e h => ⟨encode_of_kind h, fun s low => exec_eq_next h nofun ?_⟩⟩
  · refine (runTicks_more_regs fun _ => rfl).trans ?_
    refine runTicks_last_regs (fun _ => rfl) ?_
    exact congrArg (fun g : Regs => g.setHl (s.regs.sp + e.signExtend 16))
      (spaddFlags_eq (r := { s.regs with pc := s.regs.pc + 2 }) low _ e)
  · refine (runTicks_more_regs fun _ => rfl).trans ?_
    refine (runTicks_more_regs fun _ => rfl).trans ?_
    refine runTicks_last_regs (fun _ => rfl) ?_
    exact congrArg (fun g : Regs => { g with sp := s.regs.sp + e.signExtend 16 })
      (spaddFlags_eq (r := { s.regs with pc := s.regs.pc + 2 }) low _ e)

/-- Settles O24: the byte and each flag of the two steps, compared with the single step. -/
theorem twoStepCarriesEqualSingleStep : Obligations.TwoStepCarriesEqualSingleStep :=
  fun a b c => ⟨add8_eq_sum8 a b c, sub8_eq_diff8 a b c⟩

/-- Settles O25: the three operand forms run different objects and end in the same operation. -/
theorem eightBitOperationsOnA : Obligations.EightBitOperationsOnA := by
  refine ⟨fun i o r h => ⟨encode_of_kind h, fun s low => exec_eq_next h nofun ?_⟩,
    fun i o h => ⟨encode_of_kind h, fun s low v hv => exec_eq_next h nofun ?_⟩,
    fun i o n h => ⟨encode_of_kind h, fun s low => exec_eq_next h nofun ?_⟩⟩
  · exact runTicks_last_regs (fun _ => rfl) (advancePc_congr (alu_eq_aluAF low o _))
  · subst hv
    refine (runTicks_more_regs fun _ => rfl).trans ?_
    refine runTicks_last_regs (fun _ => rfl) ?_
    exact alu_eq_aluAF (r := { s.regs with pc := s.regs.pc + 1 }) low o (cpuRead (idle 1 s) s.regs.hl)
  · refine runTicks_last_regs (fun _ => rfl) ?_
    exact alu_eq_aluAF (r := { s.regs with pc := s.regs.pc + 2 }) low o n

/-- Settles O26: the flags are those of the old byte, which the object of the (HL) form latches before it stores. -/
theorem eightBitIncAndDec : Obligations.EightBitIncAndDec := by
  refine ⟨fun i r h => ⟨encode_of_kind h, fun s low => exec_eq_next h nofun ?_⟩,
    fun i r h => ⟨encode_of_kind h, fun s low => exec_eq_next h nofun ?_⟩,
    fun i h => ⟨encode_of_kind h, fun s low v hv => exec_eq_next h nofun ?_⟩,
    fun i h => ⟨encode_of_kind h, fun s low v hv => exec_eq_next h nofun ?_⟩⟩
  · refine runTicks_last_regs (fun _ => rfl) ((advancePc_congr (incFlags_set8 low r _ _)).trans ?_)
    rw [set8_pc]
    rfl
  · refine runTicks_last_regs (fun _ => rfl) ((advancePc_congr (decFlags_set8 low r _ _)).trans ?_)
    rw [set8_pc]
    rfl
  · subst hv
    refine (runTicks_more_regs fun _ => rfl).trans ?_
    refine (runTicks_more_regs fun _ => rfl).trans ?_
    refine runTicks_last_store (f := (·.incFlags (cpuRead (idle 1 s) s.regs.hl))) (fun _ => rfl) ?_
    exact incFlags_eq (r := { s.regs with pc := s.regs.pc + 1 }) low _
  · subst hv
    refine (runTicks_more_regs fun _ => rfl).trans ?_
    refine (runTicks_more_regs fun _ => rfl).trans ?_
    refine runTicks_last_store (f := (·.decFlags (cpuRead (idle 1 s) s.regs.hl))) (fun _ => rfl) ?_
    exact decFlags_eq (r := { s.regs with pc := s.regs.pc + 1 }) low _

/-- Settles O27: the object writes the pair after PC has been advanced, and no pair holds PC. -/
theorem incAndDecOfAPair : Obligations.IncAndDecOfAPair := by
  refine ⟨fun i p h => ⟨encode_of_kind h, fun s => exec_eq_next h nofun ?_⟩,
    fun i p h => ⟨encode_of_kind h, fun s => exec_eq_next h nofun ?_⟩⟩
  · refine (runTicks_more_regs fun _ => rfl).trans ?_
    refine runTicks_last_regs (fun _ => rfl) ?_
    exact congrArg (fun v => Regs.set16 _ p (v + 1)) (get16_setPc ..)
  · refine (runTicks_more_regs fun _ => rfl).trans ?_
    refine runTicks_last_regs (fun _ => rfl) ?_
    exact congrArg (fun v => Regs.set16 _ p (v - 1)) (get16_setPc ..)

/-- Settles O28: the operation adds the pair as it was, PC aside. -/
theorem addPairToHl : Obligations.AddPairToHl := by
  refine fun i p h => ⟨encode_of_kind h, fun s low => exec_eq_next h nofun ?_⟩
  refine (runTicks_more_regs fun _ => rfl).trans ?_
  refine runTicks_last_regs (fun _ => rfl) ?_
  rw [← get16_setPc s.regs p (s.regs.pc + 1)]
  exact addHl_eq (r := { s.regs with pc := s.regs.pc + 1 }) low _

/-- Settles O29: the run ends with `daaAdjust` of A, which is one sum for each value of N. -/
theorem decimalAdjust : Obligations.DecimalAdjust := by
  refine fun i h => ⟨encode_of_kind h, fun s low => ?_⟩
  have run : exec i s = .next { idle 1 s with regs := { s.regs.daa with pc := s.regs.pc + 1 }, cur := none } :=
    exec_eq_next h nofun (runTicks_last_regs (fun _ => rfl) rfl)
  rw [run, daa_eq low]
  cases s.regs.nf
  · rw [daaAdjust_after_add]
    exact ⟨_, _, nofun, fun _ => ⟨rfl, rfl⟩, rfl⟩
  · rw [daaAdjust_after_sub]
    exact ⟨_, _, fun _ => ⟨rfl, rfl⟩, nofun, rfl⟩

/-- Settles O30: the three one-cycle objects, each with its map of the register file. -/
theorem complementAndCarryInstructions : Obligations.ComplementAndCarryInstructions := by
  refine ⟨fun i h => ⟨encode_of_kind h, fun s low => exec_eq_next h nofun ?_⟩,
    fun i h => ⟨encode_of_kind h, fun s low => exec_eq_next h nofun ?_⟩,
    fun i h => ⟨encode_of_kind h, fun s low => exec_eq_next h nofun ?_⟩⟩
  · exact runTicks_last_regs (fun _ => rfl) (advancePc_congr (cpl_eq low))
  · exact runTicks_last_regs (fun _ => rfl) (advancePc_congr (scf_eq low))
  · exact runTicks_last_regs (fun _ => rfl) (advancePc_congr (ccf_eq low))

end
end

section
/-! Rotates, shifts and bit operations (42_rotate_shift_bit.md): what `rot` computes, in arithmetic on the byte's value (R216),
the bits RES and SET write (R214, R215), and the runs of the CB objects (R204). -/

namespace Sys2Proof.Machine

open Claims

/-! ### `rot` in arithmetic on the byte's value (R216) -/

/-- Bit 7 is set in the upper half of a byte's range. -/
theorem getLsbD_seven (v : Byte) : v.getLsbD 7 = decide (v.toNat ≥ 128) := BitVec.msb_eq_decide v

/-- Bit 0 of a byte is its parity. -/
theorem getLsbD_zero (v : Byte) : v.getLsbD 0 = decide (v.toNat % 2 = 1) := Nat.testBit_zero ..

theorem toNat_getLsbD_seven (v : Byte) : (v.getLsbD 7).toNat = v.toNat / 128 :=
  (Nat.toNat_testBit v.toNat 7).trans (Nat.mod_eq_of_lt (by have := v.isLt; omega))

theorem toNat_getLsbD_zero (v : Byte) : (v.getLsbD 0).toNat = v.toNat % 2 :=
  (Nat.toNat_testBit v.toNat 0).trans (by rw [pow_zero, Nat.div_one])

/-- A shift to the left that brings `b` in at bit 0. -/
theorem shiftLeft_or_bitByte (v : Byte) (b : Bool) :
    v <<< 1 ||| bitByte b = BitVec.ofNat 8 (2 * v.toNat + b.toNat) := by
  revert b v; decide

/-- A shift to the right that brings `b` in at bit 7. -/
theorem ushiftRight_or_bitByte (v : Byte) (b : Bool) :
    v >>> 1 ||| bitByte b <<< 7 = BitVec.ofNat 8 (v.toNat / 2 + 128 * b.toNat) := by
  revert b v; decide

theorem swapNibbles (v : Byte) : v <<< 4 ||| v >>> 4 = BitVec.ofNat 8 (16 * (v.toNat % 16) + v.toNat / 16) := by
  revert v; decide

/-- Each operation is a shift with its own bit brought in, but for SWAP. -/
theorem rotResult_eq_rotated (k : RotOp) (v : Byte) (cin : Bool) : rotResult k v cin = (rotated k v cin).1 := by
  cases k with
  | rlc => exact (shiftLeft_or_bitByte ..).trans (by rw [toNat_getLsbD_seven]; rfl)
  | rrc => exact (ushiftRight_or_bitByte ..).trans (by rw [toNat_getLsbD_zero]; rfl)
  | rl => exact shiftLeft_or_bitByte v cin
  | rr => exact ushiftRight_or_bitByte v cin
  | sla => exact BitVec.or_zero.symm.trans (shiftLeft_or_bitByte v false)
  | sra => exact (ushiftRight_or_bitByte ..).trans (by rw [toNat_getLsbD_seven]; rfl)
  | swap => exact swapNibbles v
  | srl => exact BitVec.or_zero.symm.trans (ushiftRight_or_bitByte v false)

/-- The carry-out is the bit that leaves the byte, and SWAP has none. -/
theorem rotCarry_eq_rotated (k : RotOp) (v : Byte) (cin : Bool) : rotCarry k v = (rotated k v cin).2 := by
  cases k with
  | rlc | rl | sla => exact getLsbD_seven v
  | rrc | rr | sra | srl => exact getLsbD_zero v
  | swap => rfl

theorem mem_of_isAccumulatorRotate {k : RotOp} (h : k.isAccumulatorRotate = true) : k ∈ [.rlc, .rrc, .rl, .rr] := by
  revert h; cases k <;> decide

/-! ### The bits of RES and SET (R214, R215) -/

theorem getLsbD_one_shiftLeft (b : Fin 8) {j : Nat} (hj : j < 8) : ((1 : Byte) <<< b.val).getLsbD j = (j == b.val) := by
  revert b j; decide

theorem getLsbD_resBit (b : Fin 8) (x : Byte) {j : Nat} (hj : j < 8) :
    (resBit b x).getLsbD j = (x.getLsbD j && j != b) := by
  rw [resBit, BitVec.getLsbD_and, BitVec.getLsbD_not, getLsbD_one_shiftLeft b hj, decide_eq_true hj, Bool.true_and]
  rfl

theorem getLsbD_setBit (b : Fin 8) (x : Byte) {j : Nat} (hj : j < 8) :
    (setBit b x).getLsbD j = (x.getLsbD j || j == b) := by
  rw [setBit, BitVec.getLsbD_or, getLsbD_one_shiftLeft b hj]

/-! ### The register file after each operation -/

theorem get8_setPc (r : Regs) (x : R8) (a : Word) : ({ r with pc := a } : Regs).get8 x = r.get8 x := by
  cases x <;> rfl

/-- A register's write and the writes of F and PC are of different registers. -/
theorem set8_setFPc (r : Regs) (x : R8) (f v : Byte) (a : Word) :
    ({ r with f := f, pc := a } : Regs).set8 x v = { r.set8 x v with f := f, pc := a } := by
  cases x <;> rfl

theorem set8_setPc (r : Regs) (x : R8) (v : Byte) (a : Word) :
    ({ r with pc := a } : Regs).set8 x v = { r.set8 x v with pc := a } := by
  cases x <;> rfl

section
variable {r : Regs} (low : r.f &&& 0x0F = 0)
include low

theorem rotA_eq (k : RotOp) : ({ r with a := rotResult k r.a r.cf } : Regs).rotAFlags k r.a =
    { r with a := (rotated k r.a r.cf).1, f := flagByte false false false (rotated k r.a r.cf).2 } := by
  rw [rotResult_eq_rotated, Regs.rotAFlags, setFlags_eq_withFlags (r := { r with a := (rotated k r.a r.cf).1 }) low,
    rotCarry_eq_rotated k r.a r.cf]
  rfl

theorem rotFlags_eq (k : RotOp) (v : Byte) : r.rotFlags k v =
    { r with f := flagByte ((rotated k v r.cf).1 = 0) false false (rotated k v r.cf).2 } := by
  rw [Regs.rotFlags, setFlags_eq_withFlags low, rotResult_eq_rotated, rotCarry_eq_rotated k v r.cf]
  rfl

theorem bitFlags_eq (b : Fin 8) (x : Byte) :
    r.bitFlags b x = { r with f := flagByte (!x.getLsbD b) false true r.cf } := by
  rw [Regs.bitFlags, setZf_eq_withFlags low, setNf_withFlags, setHf_withFlags]
  rfl

end

/-! ### The runs of the CB objects (R204) -/

section
variable {s : State} {r : Regs}

/-- The first M-cycle of a CB object advances PC and leaves the latches. -/
theorem runTicks_cb_first {t : Ticks} {fuel : Nat} (first : ∀ u : State, t 0 .fresh u = .more (u.advancePc 2) .fresh) :
    runTicks (fuel + 1) t 0 .fresh ((idle 0 s).setRegs s.regs) =
      runTicks fuel t 1 .fresh ((idle 1 s).setRegs { s.regs with pc := s.regs.pc + 2 }) :=
  runTicks_more_regs (g' := fun _ => { s.regs with pc := s.regs.pc + 2 }) fun _ => first _

/-- The register form ends in its second M-cycle, with its map of the register file that PC has been advanced in. -/
theorem runTicks_cbRegTicks {f : Regs → Regs} (hr : f { s.regs with pc := s.regs.pc + 2 } = r) :
    runTicks maxCycles (cbRegTicks f) 0 .fresh ((idle 0 s).setRegs s.regs) =
      { idle 2 s with regs := r, cur := none } :=
  (runTicks_cb_first fun _ => rfl).trans (runTicks_last_regs (g' := fun _ => f _) (fun _ => rfl) hr)

/-- The (HL) form reads its byte in the third M-cycle, and stores and sets the flags in the fourth. -/
theorem runTicks_cbMemTicks {res : Regs → Byte → Byte} {flags : Regs → Byte → Regs} {v w : Byte}
    (hv : v = cpuRead (idle 2 s) s.regs.hl) (hw : res { s.regs with pc := s.regs.pc + 2 } v = w)
    (hr : flags { s.regs with pc := s.regs.pc + 2 } v = r) :
    runTicks maxCycles (cbMemTicks res flags) 0 .fresh ((idle 0 s).setRegs s.regs) =
      { idle 1 (cpuWrite (idle 3 s) s.regs.hl w) with regs := r, cur := none } := by
  subst hw hr
  refine (runTicks_cb_first fun _ => rfl).trans ?_
  refine (runTicks_more_regs (g' := fun _ => _) (l' := fun _ => .fresh) fun _ => rfl).trans ?_
  refine (runTicks_more_regs (g' := fun _ => _) (l' := fun u => { Latches.fresh with n := cpuRead u s.regs.hl })
    fun _ => rfl).trans ?_
  rw [← hv]
  exact runTicks_last_store (f := (flags · v)) (fun _ => rfl) rfl

end

end Sys2Proof.Machine

/-! ### The statements of 42_rotate_shift_bit.md -/

section
open Sys2Proof Sys2Proof.Machine

/-- Settles O31: the object rotates A and then sets the flags from A as it was. -/
theorem accumulatorRotates : Obligations.AccumulatorRotates := by
  refine fun i k h => ⟨mem_of_isAccumulatorRotate ?_, encode_of_kind h, fun s low => exec_eq_next h nofun ?_⟩
  · have wf := wellFormed_kind i
    rwa [h] at wf
  · exact runTicks_last_regs (fun _ => rfl) (advancePc_congr (rotA_eq low k))

/-- Settles O32: both forms set the flags of the old byte with the carry as it was. -/
theorem cbRotatesAndShifts : Obligations.CbRotatesAndShifts := by
  refine ⟨fun i k r h => ⟨encode_of_kind h, fun s low => exec_eq_next h nofun ?_⟩,
    fun i k h => ⟨encode_of_kind h, fun s low v hv => exec_eq_next h nofun ?_⟩⟩
  · refine runTicks_cbRegTicks ?_
    rw [get8_setPc, rotResult_eq_rotated, rotFlags_eq (r := { s.regs with pc := s.regs.pc + 2 }) low]
    exact set8_setFPc s.regs r _ _ _
  · refine runTicks_cbMemTicks (res := fun g v => rotResult k v g.cf) (flags := (·.rotFlags k)) hv ?_ ?_
    · exact rotResult_eq_rotated k v s.regs.cf
    · exact rotFlags_eq (r := { s.regs with pc := s.regs.pc + 2 }) low k v

/-- Settles O33: the (HL) form ends with the read, in its third M-cycle. -/
theorem bitTests : Obligations.BitTests := by
  refine ⟨fun i b r h => ⟨encode_of_kind h, fun s low => exec_eq_next h nofun ?_⟩,
    fun i b h => ⟨encode_of_kind h, fun s low => exec_eq_next h nofun ?_⟩⟩
  · refine runTicks_cbRegTicks ?_
    rw [get8_setPc]
    exact bitFlags_eq (r := { s.regs with pc := s.regs.pc + 2 }) low b _
  · refine (runTicks_cb_first fun _ => rfl).trans ?_
    refine (runTicks_more_regs (g' := fun _ => _) (l' := fun _ => .fresh) fun _ => rfl).trans ?_
    refine runTicks_last_regs (g' := fun u => Regs.bitFlags _ b (cpuRead u s.regs.hl)) (fun _ => rfl) ?_
    exact bitFlags_eq (r := { s.regs with pc := s.regs.pc + 2 }) low b _

/-- Settles O34: the functions are the model's own, known by their bits. -/
theorem bitResetsAndSets : Obligations.BitResetsAndSets := by
  refine fun b => ⟨resBit b, setBit b, fun x j hj => ⟨getLsbD_resBit b x hj, getLsbD_setBit b x hj⟩,
    fun i r h => ⟨encode_of_kind h, fun s => exec_eq_next h nofun ?_⟩,
    fun i r h => ⟨encode_of_kind h, fun s => exec_eq_next h nofun ?_⟩,
    fun i h => ⟨encode_of_kind h, fun s => exec_eq_next h nofun ?_⟩,
    fun i h => ⟨encode_of_kind h, fun s => exec_eq_next h nofun ?_⟩⟩
  · refine runTicks_cbRegTicks ?_
    rw [get8_setPc, set8_setPc]
  · refine runTicks_cbRegTicks ?_
    rw [get8_setPc, set8_setPc]
  · exact runTicks_cbMemTicks (res := fun _ => resBit b) (flags := fun g _ => g) rfl rfl rfl
  · exact runTicks_cbMemTicks (res := fun _ => setBit b) (flags := fun g _ => g) rfl rfl rfl

end
end

section
/-! The load classes (43_loads.md): what a store or a push in the middle or at the end of an object's run leaves (R251), and
what the operand forms read and write besides PC and SP (10_state.md R21, R25). -/

namespace Sys2Proof.Machine

/-! ### The encoding of a word operand (30_encoding.md R100) -/

theorem encode_of_kind_word {i : Instr} {k : Kind} {op : Byte} {nn : Word} (h : i.kind = k)
    (hk : k.bytes = [op, loByte nn, hiByte nn]) : encode i = [op, nn.extractLsb' 0 8, nn.extractLsb' 8 8] := by
  rw [encode_of_kind h, hk, loByte_eq_extract, hiByte_eq_extract]

/-! ### M-cycles that store -/

/-- A push is a store at SP-1 and the write of SP (43_loads.md R251). -/
theorem pushByte_setRegs (s : State) (g : Regs) (v : Byte) :
    pushByte (s.setRegs g) v = (cpuWrite s (g.sp - 1) v).setRegs { g with sp := g.sp - 1 } :=
  cpuWrite_setRegs s { g with sp := g.sp - 1 } (g.sp - 1) v

section
variable {t : Ticks} {fuel n m : Nat} {l l' : Latches} {s : State} {g : Regs} {v : Byte}

/-- An M-cycle that stores a byte and leaves more to come: the run goes on from the state of the store. -/
theorem runTicks_more_store {a : Word} (h : ∀ u : State, t n l (u.setRegs g) = .more (cpuWrite (u.setRegs g) a v) l') :
    runTicks (fuel + 1) t n l ((idle m s).setRegs g) =
      runTicks fuel t (n + 1) l' ((idle 1 (cpuWrite (idle m s) a v)).setRegs g) := by
  rw [runTicks_more (h _), cpuWrite_setRegs, ← idle_setRegs 1]
  rfl

/-- An M-cycle that pushes a byte and leaves more to come. -/
theorem runTicks_more_push (h : ∀ u : State, t n l (u.setRegs g) = .more (pushByte (u.setRegs g) v) l') :
    runTicks (fuel + 1) t n l ((idle m s).setRegs g) = runTicks fuel t (n + 1) l'
      ((idle 1 (cpuWrite (idle m s) (g.sp - 1) v)).setRegs { g with sp := g.sp - 1 }) := by
  rw [runTicks_more (h _), pushByte_setRegs, ← idle_setRegs 1]
  rfl

/-- A last M-cycle that pushes a byte. -/
theorem runTicks_last_push (h : ∀ u : State, t n l (u.setRegs g) = .last (pushByte (u.setRegs g) v) l') :
    runTicks (fuel + 1) t n l ((idle m s).setRegs g) =
      { idle 1 (cpuWrite (idle m s) (g.sp - 1) v) with regs := { g with sp := g.sp - 1 }, cur := none } :=
  runTicks_last_setRegs ((h _).trans (congrArg (Tick.last · l') (pushByte_setRegs ..)))

end

/-! ### Operands besides PC and SP -/

theorem getStk_setSpPc (r : Regs) (q : R16Stk) (a b : Word) :
    ({ r with sp := a, pc := b } : Regs).getStk q = r.getStk q := by
  cases q <;> rfl

theorem setStk_sp (r : Regs) (q : R16Stk) (v : Word) : (r.setStk q v).sp = r.sp := by
  cases q <;> rfl

theorem set16_setPc (r : Regs) (p : R16) (v a : Word) :
    ({ r with pc := a } : Regs).set16 p v = { r.set16 p v with pc := a } := by
  cases p <;> rfl

theorem ptrAddr_setPc (r : Regs) (m : Ptr) (a : Word) : ({ r with pc := a } : Regs).ptrAddr m = r.ptrAddr m := by
  cases m <;> rfl

/-- The pointer forms leave HL itself, or the HL of their update (R233, R235, R237, R238). -/
theorem ptrUpdate_eq_setHl (r : Regs) (m : Ptr) : r.ptrUpdate m = r.setHl (r.ptrUpdate m).hl := by
  cases m with
  | bc | de => exact (setHl_hl r).symm
  | hlInc | hlDec => exact (congrArg r.setHl (hl_setHl r _)).symm

/-- The transfer to A and the advance of PC do not reach HL's update. -/
theorem ptrUpdate_setAPc (r : Regs) (m : Ptr) (x : Byte) (p : Word) :
    ({ r with a := x, pc := p } : Regs).ptrUpdate m = { r.setHl (r.ptrUpdate m).hl with a := x, pc := p } := by
  rw [← ptrUpdate_eq_setHl]
  cases m <;> rfl

end Sys2Proof.Machine

/-! ### The statements of 43_loads.md, instruction by instruction

Each clause runs the object of its kind, a line for each M-cycle. -/

section
open Sys2Proof Sys2Proof.Machine

/-- Settles O17: the object of LD r,r' writes in its one M-cycle, the others in their second. -/
theorem registerAndHlLoads : Obligations.RegisterAndHlLoads := by
  refine ⟨fun i dst src h => ⟨encode_of_kind h, fun s => exec_eq_next h nofun ?_⟩,
    fun i dst h => ⟨encode_of_kind h, fun s => exec_eq_next h nofun ?_⟩,
    fun i src h => ⟨encode_of_kind h, fun s => exec_eq_next h nofun ?_⟩,
    fun i h => ⟨encode_of_kind h, fun s => exec_eq_next h nofun ?_⟩⟩
  · refine runTicks_last_regs (fun _ => rfl) ?_
    exact congrArg (fun a => { s.regs.set8 dst (s.regs.get8 src) with pc := a + 1 }) (set8_pc ..)
  · refine (runTicks_more_regs fun _ => rfl).trans ?_
    exact runTicks_last_regs (fun _ => rfl) (set8_setPc ..)
  · refine (runTicks_more_regs fun _ => rfl).trans ?_
    rw [← get8_setPc s.regs src (s.regs.pc + 1)]
    exact runTicks_last_store (f := id) (fun _ => rfl) rfl
  · refine (runTicks_more_regs fun _ => rfl).trans ?_
    exact runTicks_last_regs (fun _ => rfl) rfl

/-- Settles O18: the address is the pointer's, and the new HL that of the pointer's update. -/
theorem accumulatorPointerLoads : Obligations.AccumulatorPointerLoads := by
  refine ⟨fun i m h => ⟨encode_of_kind h, fun s =>
      ⟨s.regs.ptrAddr m, (s.regs.ptrUpdate m).hl, ?load, exec_eq_next h nofun ?_⟩⟩,
    fun i m h => ⟨encode_of_kind h, fun s =>
      ⟨s.regs.ptrAddr m, (s.regs.ptrUpdate m).hl, ?store, exec_eq_next h nofun ?_⟩⟩,
    fun i h => ⟨encode_of_kind h, fun s => exec_eq_next h nofun ?_⟩,
    fun i h => ⟨encode_of_kind h, fun s => exec_eq_next h nofun ?_⟩⟩
  case load | store =>
    cases m with
    | bc | de => exact ⟨rfl, rfl⟩
    | hlInc | hlDec => exact ⟨rfl, hl_setHl ..⟩
  · refine (runTicks_more_regs fun _ => rfl).trans ?_
    rw [← ptrAddr_setPc s.regs m (s.regs.pc + 1)]
    exact runTicks_last_regs (fun _ => rfl) (ptrUpdate_setAPc s.regs m _ _)
  · refine (runTicks_more_regs fun _ => rfl).trans ?_
    rw [← ptrAddr_setPc s.regs m (s.regs.pc + 1)]
    exact runTicks_last_store (f := (·.ptrUpdate m)) (fun _ => rfl) (ptrUpdate_setAPc _ m s.regs.a _)
  · refine (runTicks_more_regs fun _ => rfl).trans ?_
    rw [← highPage_eq_append]
    exact runTicks_last_regs (fun _ => rfl) rfl
  · refine (runTicks_more_regs fun _ => rfl).trans ?_
    rw [← highPage_eq_append]
    exact runTicks_last_store (f := id) (fun _ => rfl) rfl

/-- Settles O19: PC is advanced in the M-cycle that reads the operand, which LD r,n8 ends in. -/
theorem byteOperandLoads : Obligations.ByteOperandLoads := by
  refine ⟨fun i dst n h => ⟨encode_of_kind h, fun s => exec_eq_next h nofun ?_⟩,
    fun i n h => ⟨encode_of_kind h, fun s => exec_eq_next h nofun ?_⟩,
    fun i n h => ⟨encode_of_kind h, fun s => exec_eq_next h nofun ?_⟩,
    fun i n h => ⟨encode_of_kind h, fun s => exec_eq_next h nofun ?_⟩⟩
  · exact runTicks_last_regs (fun _ => rfl) (set8_setPc ..)
  · refine (runTicks_more_regs fun _ => rfl).trans ?_
    exact runTicks_last_store (f := id) (fun _ => rfl) rfl
  · refine (runTicks_more_regs fun _ => rfl).trans ?_
    rw [← highPage_eq_append]
    exact runTicks_last_regs (fun _ => rfl) rfl
  · refine (runTicks_more_regs fun _ => rfl).trans ?_
    rw [← highPage_eq_append]
    exact runTicks_last_store (f := id) (fun _ => rfl) rfl

/-- Settles O20: PC is advanced in the M-cycle that reads the operand's high byte; each access has its own after it. -/
theorem wordOperandLoads : Obligations.WordOperandLoads := by
  refine ⟨fun i nn h => ⟨encode_of_kind_word h rfl, fun s => exec_eq_next h nofun ?_⟩,
    fun i nn h => ⟨encode_of_kind_word h rfl, fun s => exec_eq_next h nofun ?_⟩,
    fun i p nn h => ⟨encode_of_kind_word h rfl, fun s => exec_eq_next h nofun ?_⟩,
    fun i nn h => ⟨encode_of_kind_word h rfl, fun s => exec_eq_next h nofun ?_⟩⟩
  · refine (runTicks_more_regs fun _ => rfl).trans ?_
    exact runTicks_last_regs (fun _ => rfl) rfl
  · refine (runTicks_more_regs fun _ => rfl).trans ?_
    exact runTicks_last_store (f := id) (fun _ => rfl) rfl
  · exact runTicks_last_regs (fun _ => rfl) (set16_setPc ..)
  · rw [← loByte_eq_extract, ← hiByte_eq_extract]
    refine (runTicks_more_regs fun _ => rfl).trans ?_
    refine (runTicks_more_store (a := nn) (v := loByte s.regs.sp) fun _ => rfl).trans ?_
    exact runTicks_last_store (m := 1) (f := id) (fun _ => rfl) rfl

/-- Settles O22: the two pushes of the object are those of `pushWord`. -/
theorem pushStoresHighThenLow : Obligations.PushStoresHighThenLow := by
  refine fun i q h => ⟨encode_of_kind h, fun s => exec_eq_next h nofun ?_⟩
  have pair (sp : Word) : ({ s.regs with sp := sp, pc := s.regs.pc + 1 } : Regs).getStk q = s.regs.getStk q :=
    getStk_setSpPc ..
  have second : s.regs.sp - 1 - 1 = s.regs.sp - 2 := sub_one_sub_one _
  unfold pushWord
  rw [← second]
  refine (runTicks_more_regs fun _ => rfl).trans ?_
  refine (runTicks_more_regs fun _ => rfl).trans ?_
  refine (runTicks_more_push (v := hiByte (s.regs.getStk q))
    fun u => congrArg (fun w => Tick.more (pushByte _ (hiByte w)) .fresh) (pair _)).trans ?_
  exact runTicks_last_push (m := 1) (v := loByte (s.regs.getStk q))
    fun u => congrArg (fun w => Tick.last (pushByte _ (loByte w)) .fresh) (pair _)

/-- Settles O23: the low byte waits in its latch for the high one. -/
theorem popReadsLowThenHigh : Obligations.PopReadsLowThenHigh := by
  refine fun i q h => ⟨encode_of_kind h, fun s => exec_eq_next h nofun ?_⟩
  refine (runTicks_more_regs fun _ => rfl).trans ?_
  refine (runTicks_more_regs fun _ => rfl).trans ?_
  refine runTicks_last_regs (fun _ => rfl) ?_
  exact congrArg (fun a => ({ s.regs with sp := a, pc := s.regs.pc + 1 } : Regs).setStk q
    (cpuRead (idle 2 s) (s.regs.sp + 1) ++ cpuRead (idle 1 s) s.regs.sp)) (BitVec.add_assoc s.regs.sp 1 1)

end
end

section
/-! The stack bytes in a machine where only the CPU and the timer act: the idle M-cycles of PUSH and POP leave them, and what
PUSH stored POP reads (43_loads.md R249 to R251). -/

namespace Sys2Proof.Machine

/-- Only the CPU and the timer act, and no DMA lock shuts WRAM (20_memory.md R69). -/
def State.Undisturbed (s : State) : Prop := s.Quiet ∧ s.locks.dma = false

/-- The stack bytes of two pushes from SP = sp on are WRAM or HRAM. -/
def StackInRam (sp : Word) : Prop := ∀ a, a = sp - 1 ∨ a = sp - 2 → region a = .wram ∨ region a = .hram

/-! ### Idle M-cycles -/

theorem endCycle_of_quiet {s : State} (hq : s.Quiet) : endCycle .running s = timerTick s := by
  have ht : envStep (timerTick s) = timerTick s := envStep_nil hq.envDone
  rw [endCycle_running_eq, ht]
  exact dmaTick_idle hq.dmaIdle hq.noTrigger

/-- In an undisturbed machine an idle M-cycle is a timer tick, which no lock and no RAM byte is part of. -/
theorem idle_undisturbed {s : State} (h : s.Undisturbed) (n : Nat) :
    (idle n s).Undisturbed ∧ (idle n s).locks = s.locks ∧ (idle n s).mem = s.mem := by
  induction n generalizing s with
  | zero => exact ⟨h, rfl, rfl⟩
  | succ n ih =>
    obtain ⟨hq, hlock⟩ := h
    rw [idle_succ, endCycle_of_quiet hq]
    exact ih (s := timerTick s) ⟨⟨hq.envDone, hq.dmaIdle, hq.noTrigger⟩, hlock⟩

section
variable {s : State} {a : Word} (ha : region a = .wram ∨ region a = .hram)
include ha

theorem cpuRead_idle (h : s.Undisturbed) (n : Nat) : cpuRead (idle n s) a = cpuRead s a := by
  obtain ⟨-, hlocks, hmem⟩ := idle_undisturbed h n
  unfold cpuRead busRead peek
  rw [hlocks, hmem]
  rcases ha with ha | ha <;> rw [ha]

theorem undisturbed_cpuWrite (v : Byte) (h : s.Undisturbed) : (cpuWrite s a v).Undisturbed := by
  have hne : (0xFF46 : Word) ∉ [a] := by
    rw [List.mem_singleton]
    rintro rfl
    exact absurd ha (by decide)
  exact ⟨(byteFrame_cpuWrite v byteFrame_refl List.mem_cons_self).quiet hne h.1,
    (congrArg Locks.dma (busWrite_frame s a v .cpu).locks).trans h.2⟩

theorem cpuRead_stored (v : Byte) (h : s.Undisturbed) : cpuRead (cpuWrite s a v) a = v := by
  have hram : isRam (region a) = true := by rcases ha with ha | ha <;> rw [ha] <;> rfl
  have hopen : blocked s.locks (region a) .cpu = false := by
    rcases ha with ha | ha <;> simp [ha, blocked, dmaLockCovers, h.2]
  exact cpuRead_cpuWrite_same v hram hopen

end

/-! ### The two pushes read back -/

section
variable {s : State} {sp : Word} (v : Word) (hs : s.Undisturbed) (hram : StackInRam sp)
include hs hram

theorem undisturbed_first_push (w : Byte) : (idle 1 (cpuWrite s (sp - 1) w)).Undisturbed :=
  (idle_undisturbed (undisturbed_cpuWrite (hram _ (.inl rfl)) w hs) 1).1

theorem undisturbed_pushWord : (pushWord s sp v).Undisturbed :=
  undisturbed_cpuWrite (hram _ (.inr rfl)) _ (undisturbed_first_push hs hram _)

/-- The second push spares the byte of the first. -/
theorem cpuRead_pushWord_hi : cpuRead (pushWord s sp v) (sp - 1) = hiByte v := by
  have hcart : ¬(region (sp - 2) = .rom ∨ region (sp - 2) = .eram) := by
    rcases hram _ (.inr rfl) with h | h <;> rw [h] <;> decide
  calc cpuRead (pushWord s sp v) (sp - 1)
      = cpuRead (idle 1 (cpuWrite s (sp - 1) (hiByte v))) (sp - 1) :=
        cpuRead_cpuWrite_other _ _ (by bv_omega) fun h => absurd h hcart
    _ = cpuRead (cpuWrite s (sp - 1) (hiByte v)) (sp - 1) :=
        cpuRead_idle (hram _ (.inl rfl)) (undisturbed_cpuWrite (hram _ (.inl rfl)) _ hs) 1
    _ = hiByte v := cpuRead_stored (hram _ (.inl rfl)) _ hs

theorem cpuRead_pushWord_lo : cpuRead (pushWord s sp v) (sp - 2) = loByte v :=
  cpuRead_stored (hram _ (.inr rfl)) _ (undisturbed_first_push hs hram _)

/-- The two reads of POP, in the M-cycles after a PUSH of `v`: SP-2 is where POP starts. -/
theorem append_cpuRead_pushWord (r : Regs) (b : Bool) (c : Option Obj) :
    cpuRead (idle 2 ((idle 1 (pushWord s sp v)).withCpu r b c)) (sp - 2 + 1) ++
      cpuRead (idle 1 ((idle 1 (pushWord s sp v)).withCpu r b c)) (sp - 2) = v := by
  have hpushed := undisturbed_pushWord v hs hram
  have second : sp - 2 + 1 = sp - 1 := by bv_omega
  rw [second, idle_withCpu, idle_withCpu, cpuRead_withCpu, cpuRead_withCpu, ← idle_add, ← idle_add,
    cpuRead_idle (hram _ (.inl rfl)) hpushed, cpuRead_idle (hram _ (.inr rfl)) hpushed,
    cpuRead_pushWord_hi v hs hram, cpuRead_pushWord_lo v hs hram]
  exact joinBytes_hiByte_loByte v

end

end Sys2Proof.Machine

section
open Sys2Proof Sys2Proof.Machine

/-- Settles O40: POP's two reads find the bytes of the two pushes, which the M-cycles between leave. -/
theorem pushThenPopRestoresThePair : Obligations.PushThenPopRestoresThePair := by
  intro i j q s t u hi hj hq hlock hram ht hu
  have hpush : _ = t := Host.Outcome.next.inj (((pushStoresHighThenLow i q hi).2 s).symm.trans ht)
  obtain rfl : _ = u := Host.Outcome.next.inj (((popReadsLowThenHigh j q hj).2 t).symm.trans hu)
  have hsp : t.regs.sp = s.regs.sp - 2 := by rw [← hpush]
  have popped : cpuRead (idle 2 t) (t.regs.sp + 1) ++ cpuRead (idle 1 t) t.regs.sp = s.regs.getStk q := by
    rw [hsp, ← hpush]
    exact append_cpuRead_pushWord _ (idle_undisturbed ⟨hq, hlock⟩ 2).1 hram _ (idle 1 (pushWord _ _ _)).ime none
  constructor
  · refine (setStk_sp ..).trans ?_
    rw [hsp, BitVec.sub_add_cancel]
  · refine (getStk_setStk_same ..).trans ?_
    rw [popped]
    split
    · subst q; rfl
    · rfl

end
end

section
/-! The control-flow classes (44_control_flow.md): the M-cycles a CALL and an RST share, which push the return address
(R276, R281), and those the returns share, which read it back (R278, R280). -/

namespace Sys2Proof.Machine

section
variable {t : Ticks} {fuel n m : Nat} {s : State} {g : Regs}

/-- The two pushes of PC, and with the second the jump: the bytes are those of `pushWord`. -/
theorem runTicks_pushPc_jump {target : Word}
    (pushHigh : ∀ u : State, t n .fresh u = .more (pushByte u (hiByte u.regs.pc)) .fresh)
    (pushLow : ∀ u : State, t (n + 1) .fresh u = .last ((pushByte u (loByte u.regs.pc)).setPc target) .fresh) :
    runTicks (fuel + 2) t n .fresh ((idle m s).setRegs g) =
      { idle 1 (pushWord (idle m s) g.sp g.pc) with regs := { g with sp := g.sp - 2, pc := target }, cur := none } := by
  have second : g.sp - 1 - 1 = g.sp - 2 := sub_one_sub_one _
  unfold pushWord
  rw [← second]
  refine (runTicks_more_push (g := g) (v := hiByte g.pc) fun _ => pushHigh _).trans ?_
  refine runTicks_last_setRegs (l' := .fresh) ((pushLow _).trans ?_)
  exact congrArg (fun u : State => Tick.last (u.setPc target) .fresh) (pushByte_setRegs ..)

/-- From the M-cycle that advances PC on: an internal one, then the pushes of the PC it left. -/
theorem runTicks_call {k target : Word}
    (advance : ∀ u : State, t n .fresh (u.setRegs s.regs) = .more ((u.setRegs s.regs).advancePc k) .fresh)
    (internal : ∀ u : State, t (n + 1) .fresh u = .more u .fresh)
    (pushHigh : ∀ u : State, t (n + 2) .fresh u = .more (pushByte u (hiByte u.regs.pc)) .fresh)
    (pushLow : ∀ u : State, t (n + 3) .fresh u = .last ((pushByte u (loByte u.regs.pc)).setPc target) .fresh) :
    runTicks (fuel + 4) t n .fresh ((idle 0 s).setRegs s.regs) =
      { idle 1 (pushWord (idle 2 s) s.regs.sp (s.regs.pc + k)) with
        regs := { s.regs with sp := s.regs.sp - 2, pc := target }, cur := none } := by
  refine (runTicks_more_regs (g' := fun _ => { s.regs with pc := s.regs.pc + k }) (l' := fun _ => .fresh)
    advance).trans ?_
  refine (runTicks_more_regs (l' := fun _ => .fresh) fun _ => internal _).trans ?_
  exact runTicks_pushPc_jump pushHigh pushLow

/-- Two pops, one M-cycle apart: the latches hold the bytes at SP and after it. -/
theorem runTicks_popWord
    (popLow : ∀ u : State, t n .fresh u = .more u.popSp { Latches.fresh with lo := popByte u })
    (popHigh : ∀ (l : Latches) (u : State), t (n + 1) l u = .more u.popSp { l with hi := popByte u }) :
    runTicks (fuel + 2) t n .fresh ((idle m s).setRegs g) =
      runTicks fuel t (n + 2)
        { Latches.fresh with lo := cpuRead (idle m s) g.sp, hi := cpuRead (idle (m + 1) s) (g.sp + 1) }
        ((idle (m + 2) s).setRegs { g with sp := g.sp + 2 }) := by
  have twice : g.sp + 1 + 1 = g.sp + 2 := BitVec.add_assoc g.sp 1 1
  rw [← twice]
  refine (runTicks_more_regs (g' := fun _ => _) (l' := fun u => { Latches.fresh with lo := cpuRead u g.sp })
    fun _ => popLow _).trans ?_
  exact runTicks_more_regs (g' := fun _ => { g with sp := g.sp + 1 + 1 }) (l' := fun u =>
    { Latches.fresh with lo := cpuRead (idle m s) g.sp, hi := cpuRead u (g.sp + 1) }) fun _ => popHigh _ _

/-- A last M-cycle that returns from an interrupt: IME is set with PC (R280). -/
theorem runTicks_last_returnFromInterrupt {l : Latches}
    (h : ∀ u : State, t n l u = .last (returnFromInterrupt l.hi l.lo u) l) :
    runTicks (fuel + 1) t n l ((idle m s).setRegs g) =
      { idle (m + 1) s with regs := { g with pc := joinBytes l.hi l.lo }, ime := true, cur := none } :=
  calc runTicks (fuel + 1) t n l ((idle m s).setRegs g)
      = idle 1 ((idle m s).withCpu { g with pc := joinBytes l.hi l.lo } true none) := runTicks_last (h _)
    _ = (idle (m + 1) s).withCpu { g with pc := joinBytes l.hi l.lo } true none := by rw [idle_withCpu, idle_add]

end

end Sys2Proof.Machine

/-! ### The statements of 44_control_flow.md

Each clause runs the object of its kind, a line for each M-cycle or for each of the shared sequences above. -/

section
open Sys2Proof Sys2Proof.Machine

/-- Settles O36: JP HL jumps in its one M-cycle, the others in the M-cycle after the one that advances PC. -/
theorem unconditionalJumps : Obligations.UnconditionalJumps := by
  refine ⟨fun i nn h => ⟨encode_of_kind_word h rfl, fun s => exec_eq_next h nofun ?_⟩,
    fun i h => ⟨encode_of_kind h, fun s => exec_eq_next h nofun ?_⟩,
    fun i e h => ⟨encode_of_kind h, fun s => exec_eq_next h nofun ?_⟩⟩
  · refine (runTicks_more_regs fun _ => rfl).trans ?_
    exact runTicks_last_regs (fun _ => rfl) rfl
  · exact runTicks_last_regs (fun _ => rfl) rfl
  · refine (runTicks_more_regs fun _ => rfl).trans ?_
    exact runTicks_last_regs (fun _ => rfl) rfl

/-- Settles O37: the M-cycle that advances PC tests the condition, and is the last one when it fails. -/
theorem conditionalJumps : Obligations.ConditionalJumps := by
  refine ⟨fun r => ⟨(Bool.not_eq_true' _).to_iff, Iff.rfl, (Bool.not_eq_true' _).to_iff, Iff.rfl⟩,
    fun i cc nn h => ⟨encode_of_kind_word h rfl, fun s =>
      ⟨fun hc => exec_eq_next h nofun ?_, fun hc => exec_eq_next h nofun ?_⟩⟩,
    fun i cc e h => ⟨encode_of_kind h, fun s =>
      ⟨fun hc => exec_eq_next h nofun ?_, fun hc => exec_eq_next h nofun ?_⟩⟩⟩
  · refine (runTicks_more_regs fun _ => if_pos hc).trans ?_
    exact runTicks_last_regs (fun _ => rfl) rfl
  · exact runTicks_last_regs (fun _ => if_neg (ne_true_of_eq_false hc)) rfl
  · refine (runTicks_more_regs fun _ => if_pos hc).trans ?_
    exact runTicks_last_regs (fun _ => rfl) rfl
  · exact runTicks_last_regs (fun _ => if_neg (ne_true_of_eq_false hc)) rfl

/-- Settles O38: a CALL whose condition holds ends as the CALL does, one whose condition fails as the JP does. -/
theorem callsAndRestarts : Obligations.CallsAndRestarts := by
  refine ⟨fun i nn h => ⟨encode_of_kind_word h rfl, fun s => exec_eq_next h nofun ?_⟩,
    fun i cc nn h => ⟨encode_of_kind_word h rfl, fun s =>
      ⟨fun hc => exec_eq_next h nofun ?_, fun hc => exec_eq_next h nofun ?_⟩⟩,
    fun i y h => ⟨encode_of_kind h, fun s => exec_eq_next h nofun ?_⟩⟩
  · exact runTicks_call (fun _ => rfl) (fun _ => rfl) (fun _ => rfl) fun _ => rfl
  · exact runTicks_call (fun _ => if_pos hc) (fun _ => rfl) (fun _ => rfl) fun _ => rfl
  · exact runTicks_last_regs (fun _ => if_neg (ne_true_of_eq_false hc)) rfl
  · rw [Nat.mul_comm]
    exact runTicks_call (fun _ => rfl) (fun _ => rfl) (fun _ => rfl) fun _ => rfl

/-- Settles O39: RET cc tests the condition in an M-cycle of its own, before the two pops. -/
theorem returns : Obligations.Returns := by
  refine ⟨fun i h => ⟨encode_of_kind h, fun s => exec_eq_next h nofun ?_⟩,
    fun i h => ⟨encode_of_kind h, fun s => exec_eq_next h nofun ?_⟩,
    fun i cc h => ⟨encode_of_kind h, fun s =>
      ⟨fun hc => exec_eq_next h nofun ?_, fun hc => exec_eq_next h nofun ?_⟩⟩⟩
  · refine (runTicks_more_regs fun _ => rfl).trans ?_
    refine (runTicks_popWord (fun _ => rfl) fun _ _ => rfl).trans ?_
    exact runTicks_last_regs (fun _ => rfl) rfl
  · refine (runTicks_more_regs fun _ => rfl).trans ?_
    refine (runTicks_popWord (fun _ => rfl) fun _ _ => rfl).trans ?_
    exact runTicks_last_returnFromInterrupt fun _ => rfl
  · refine (runTicks_more_regs fun _ => rfl).trans ?_
    refine (runTicks_more_regs fun _ => if_pos hc).trans ?_
    refine (runTicks_popWord (fun _ => rfl) fun _ _ => rfl).trans ?_
    exact runTicks_last_regs (fun _ => rfl) rfl
  · refine (runTicks_more_regs fun _ => rfl).trans ?_
    exact runTicks_last_regs (fun _ => if_neg (ne_true_of_eq_false hc)) rfl

end
end

section
/-! The system instructions (45_system.md): the M-cycle that ends with HALT or STOP (40_execution_cycle.md R140 to R142), and
the launch switch through every M-cycle (70_reset_and_hazards.md R396). -/

namespace Sys2Proof.Machine

/-! ### The register file past an M-cycle -/

/-- What passes the CPU's own parts through passes the register file through. -/
theorem setRegs_of_withCpu {f : State → State} (h : ∀ s r b c, f (s.withCpu r b c) = (f s).withCpu r b c) (s : State)
    (g : Regs) : f (s.setRegs g) = (f s).setRegs g := by
  rw [setRegs_eq, h, setRegs_eq, ime_of_withCpu h, cur_of_withCpu h]

theorem idle_advancePc (n : Nat) (s : State) (k : Word) :
    idle n (s.advancePc k) = (idle n s).setRegs { s.regs with pc := s.regs.pc + k } := idle_setRegs n s _

/-! ### The M-cycles of HALT and STOP, and the last one of DI and EI -/

/-- The end of an M-cycle with the result HALT is an idle M-cycle's, but for the HALT exit (R140). -/
theorem endCycle_halt_withSlot (s : State) (c : Option Obj) :
    endCycle .halt (s.withSlot c) = (idle 1 s).withSlot (if (timerTick s).queued then none else c) := by
  show dmaTick (envStep (if (timerTick s).queued then (timerTick s).withSlot none else (timerTick s).withSlot c)) = _
  split
  · exact endCycle_withSlot s none
  · exact endCycle_withSlot s c

/-- An M-cycle without its timer tick passes the CPU's own parts through. -/
theorem dmaTick_comp_envStep_withCpu (s : State) (r : Regs) (b : Bool) (c : Option Obj) :
    (dmaTick ∘ envStep) (s.withCpu r b c) = ((dmaTick ∘ envStep) s).withCpu r b c :=
  (congrArg dmaTick (envStep_withCpu s r b c)).trans (dmaTick_withCpu (envStep s) r b c)

/-- With the result STOP the timer is not ticked, and the STOP exit asks the joypad (R141, R142). -/
theorem endCycle_stop_withSlot (s : State) (c : Option Obj) :
    endCycle .stop (s.withSlot c) = (dmaTick (envStep s)).withSlot (if s.joypNibble = 0 then none else c) := by
  show dmaTick (envStep (if s.joypNibble = 0 then s.withSlot none else s.withSlot c)) = _
  split
  · exact withSlot_of_withCpu s none dmaTick_comp_envStep_withCpu
  · exact withSlot_of_withCpu s c dmaTick_comp_envStep_withCpu

section
variable {t : Ticks} {fuel n : Nat} {l l' : Latches} {s u : State}

theorem runTicks_halted (h : t n l s = { state := u, latches := l', result := .halt }) :
    runTicks (fuel + 1) t n l s =
      { idle 1 u with cur := if (timerTick u).queued then none else some (.running .halt (n + 1) l') } := by
  rw [runTicks_ended fuel (by rw [h]; nofun), cycle, h]
  exact endCycle_halt_withSlot u _

theorem runTicks_stopped (h : t n l s = { state := u, latches := l', result := .stop }) :
    runTicks (fuel + 1) t n l s =
      { dmaTick (envStep u) with cur := if u.joypNibble = 0 then none else some (.running .stop (n + 1) l') } := by
  rw [runTicks_ended fuel (by rw [h]; nofun), cycle, h]
  exact endCycle_stop_withSlot u _

/-- A last M-cycle that writes the register file and IME. -/
theorem runTicks_last_withCpu {r : Regs} {b : Bool} {c : Option Obj} (h : t n l s = .last (s.withCpu r b c) l') :
    runTicks (fuel + 1) t n l s = { idle 1 s with regs := r, ime := b, cur := none } :=
  (runTicks_last h).trans (idle_withCpu 1 s r b none)

end

/-- A HALT in the slot that is not in its halt bug answers HALT (45_system.md R301). -/
theorem haltTicks_waiting (n : Nat) {l : Latches} (s : State) (hl : l.haltBug = false) :
    haltTicks (n + 1) l s = { state := s, latches := l, result := .halt } := by
  cases n with
  | zero => exact if_neg (ne_true_of_eq_false hl)
  | succ n => rfl

theorem step_running {s : State} {k : Kind} {n : Nat} {l : Latches} (hc : s.cur = some (.running k n l)) :
    step s = .next (runTicks maxCycles (kindTicks k) n l s) := by
  unfold step; rw [hc]

/-! ### The launch switch -/

/-- What a step may answer in a machine whose ILLEGAL_OPCODE_FAULT is `b`: a next state with the same switch, or, with the
switch on, the fault of an unassigned opcode (45_system.md R306, 60_exceptions.md R320, 70_reset_and_hazards.md R396). -/
def Lawful (b : Bool) (r : Result) : Prop :=
  (∃ t, r = .next t ∧ t.illegalFault = b) ∨ b = true ∧ ∃ op, op ∈ unassignedOpcodes ∧ r = .fault (.illegalOpcode op)

theorem lawful_next {b : Bool} {t : State} (h : t.illegalFault = b) : Lawful b (.next t) := .inl ⟨t, rfl, h⟩

theorem cycle_illegalFault {t : Ticks} {n : Nat} {l : Latches} {s : State} (h : StoreFrame s (t n l s).state) :
    (cycle t n l s).state.illegalFault = s.illegalFault := by
  refine (endCycle_illegalFault ..).trans ?_
  rw [retire_eq]
  exact h.illegalFault

section
variable {t : Ticks} (store : ∀ n l s, StoreFrame s (t n l s).state) (n : Nat) (l : Latches) (s : State)
include store

theorem runTicks_illegalFault (fuel : Nat) : (runTicks fuel t n l s).illegalFault = s.illegalFault :=
  runTicks_keeps (L := fun _ => True) (P := fun u => u.illegalFault = s.illegalFault) (fun _ _ _ _ => trivial)
    (fun n l u _ hu => (cycle_illegalFault (store n l u)).trans hu) fuel n trivial rfl

theorem slotCycle_illegalFault (held : Nat → Latches → Obj) : (slotCycle t held n l s).illegalFault = s.illegalFault := by
  by_cases hr : (t n l s).result = .running
  · rw [slotCycle_running held hr]; exact cycle_illegalFault (store n l s)
  · rw [slotCycle_ended held hr]; exact cycle_illegalFault (store n l s)

end

theorem serviceTicks_store (t : Irq) (n : Nat) (l : Latches) (s : State) : StoreFrame s (serviceTicks t n l s).state :=
  (serviceTicks_law t n l s).frame.store

theorem objectCycle_illegalFault (k : Kind) (n : Nat) (l : Latches) (s : State) :
    (objectCycle k n l s).illegalFault = s.illegalFault := by
  rw [objectCycle_eq]; exact slotCycle_illegalFault (kindTicks_store k) n l s _
theorem serviceCycle_illegalFault (t : Irq) (n : Nat) (s : State) : (serviceCycle t n s).illegalFault = s.illegalFault := by
  rw [serviceCycle_eq]; exact slotCycle_illegalFault (serviceTicks_store t) n .fresh s _
theorem fetchCycle_illegalFault (op : Byte) (lo : Option Byte) (s : State) :
    (fetchCycle op lo s).illegalFault = s.illegalFault := endCycle_illegalFault ..

theorem fetchImmediates_illegalFault (e : Entry) (s : State) :
    (fetchImmediates e s).state.illegalFault = s.illegalFault := by
  cases e with
  | op16 mk => exact endCycle_illegalFault .running s
  | _ => rfl

theorem fetchInstr_illegalFault (s : State) : (fetchInstr s).state.illegalFault = s.illegalFault := by
  unfold fetchInstr
  split
  · exact fetchImmediates_illegalFault ..
  · exact fetchImmediates_illegalFault ..
  · exact (fetchImmediates_illegalFault ..).trans (endCycle_illegalFault ..)
  · exact (fetchImmediates_illegalFault ..).trans (endCycle_illegalFault ..)

theorem resumeFetch_illegalFault (op : Byte) (lo : Option Byte) (s : State) :
    (resumeFetch op lo s).state.illegalFault = s.illegalFault := by
  unfold resumeFetch
  split
  · exact fetchImmediates_illegalFault ..
  · rfl
  · exact fetchImmediates_illegalFault ..

/-- An answer is lawful that for an unassigned opcode hangs on the switch, and for any other instruction is a next state. -/
theorem lawful_of_kind {i : Instr} {s t : State} {r : Result} (ht : t.illegalFault = s.illegalFault)
    (unassigned : ∀ op, i.kind = .illegal op → r = if s.illegalFault then .fault (.illegalOpcode op) else .next t)
    (assigned : (∀ op, i.kind ≠ .illegal op) → r = .next t) : Lawful s.illegalFault r := by
  by_cases hi : ∃ op, i.kind = .illegal op
  · obtain ⟨op, hk⟩ := hi
    rw [unassigned op hk]
    split
    · exact .inr ⟨‹_›, op, mem_unassignedOpcodes_of_kind hk, rfl⟩
    · exact lawful_next ht
  · rw [assigned fun op hk => hi ⟨op, hk⟩]
    exact lawful_next ht

/-- The run of any instruction, started in a state with the switch `b`. -/
theorem exec_lawful {b : Bool} (i : Instr) {s : State} (h : s.illegalFault = b) : Lawful b (exec i s) := by
  subst h
  rw [exec_eq_performKind]
  refine lawful_of_kind (runTicks_illegalFault (kindTicks_store i.kind) (immediateBytes i.kind) .fresh s maxCycles)
    (fun op hk => ?_) fun hk => performKind_eq hk s
  rw [hk]; exact performKind_illegal op s

theorem firstCycle_lawful (i : Instr) (n : Nat) (s : State) : Lawful s.illegalFault (firstCycle i.kind n s) := by
  refine lawful_of_kind (objectCycle_illegalFault i.kind n .fresh s) (fun op hk => ?_) fun hk => firstCycle_eq hk n s
  rw [hk]; exact firstCycle_illegal op n s

theorem fetchStep_lawful (s : State) : Lawful s.illegalFault (fetchStep s) := by
  unfold fetchStep
  dsimp only
  split
  · exact firstCycle_lawful _ 0 s
  · exact firstCycle_lawful .prefixCb 0 s
  · exact lawful_next (fetchCycle_illegalFault ..)
  · exact lawful_next (fetchCycle_illegalFault ..)

theorem immediateStep_lawful (op : Byte) (lo : Option Byte) (s : State) :
    Lawful s.illegalFault (immediateStep op lo s) := by
  unfold immediateStep
  split
  · exact lawful_next (fetchCycle_illegalFault ..)
  · exact firstCycle_lawful _ 2 s
  · exact firstCycle_lawful _ 1 s
  · exact firstCycle_lawful _ 0 s
  · exact firstCycle_lawful .prefixCb 0 s

/-- Every step is lawful: each of its branches runs an object or an instruction from the state it starts in. -/
theorem step_lawful (s : State) : Lawful s.illegalFault (step s) := by
  unfold step
  split
  · split
    · exact lawful_next (runTicks_illegalFault (serviceTicks_store _) ..)
    · exact exec_lawful _ (fetchInstr_illegalFault s)
  · exact exec_lawful _ (resumeFetch_illegalFault ..)
  · exact lawful_next (runTicks_illegalFault (kindTicks_store _) ..)
  · exact lawful_next (runTicks_illegalFault (serviceTicks_store _) ..)

theorem systemStep_lawful (s : State) : Lawful s.illegalFault (systemStep s) := by
  unfold systemStep
  split
  · split
    · exact lawful_next (serviceCycle_illegalFault ..)
    · exact fetchStep_lawful s
  · exact immediateStep_lawful ..
  · exact lawful_next (objectCycle_illegalFault ..)
  · exact lawful_next (serviceCycle_illegalFault ..)

theorem Lawful.next {b : Bool} {r : Result} (h : Lawful b r) (hb : b = false) : ∃ t, r = .next t := by
  obtain ⟨t, hr, -⟩ | ⟨ht, -⟩ := h
  · exact ⟨t, hr⟩
  · rw [hb] at ht; exact nomatch ht

/-! ### The fetch of an unassigned opcode -/

/-- The entry of an unassigned opcode is its own instruction (30_encoding.md R110). -/
theorem decodeOpcode_of_mem_unassignedOpcodes {op : Byte} (h : op ∈ unassignedOpcodes) :
    ∃ i, decodeOpcode op = .op i ∧ i.kind = .illegal op := by
  obtain ⟨i, hdec, hk⟩ := decode_of_mem_unassignedOpcodes h
  exact ⟨i, decodeOpcode_of_decode_one (by rintro rfl; exact absurd h (by decide)) hdec, hk⟩

theorem systemStep_fetch {s : State} (hc : s.cur = none) (hirq : dueIrq s = none) : systemStep s = fetchStep s := by
  unfold systemStep; rw [hc]; dsimp only; rw [hirq]

end Sys2Proof.Machine

/-! ### The statements of 45_system.md

The clauses of HALT and STOP each run one M-cycle, but for the halt bug's two. -/

section
open Sys2Proof Sys2Proof.Machine

/-- Settles O10: every step and every M-cycle is lawful, and with the switch on the fetch of an unassigned opcode is the
M-cycle in which its instruction faults. -/
theorem onlyTheLaunchSwitchStopsAStep : Obligations.OnlyTheLaunchSwitchStopsAStep := by
  intro s
  refine ⟨fun hoff => ⟨(step_lawful s).next hoff, (systemStep_lawful s).next hoff⟩, fun hon hc hirq hop => ?_,
    fun r hr => ?_⟩
  · obtain ⟨i, hdec, hk⟩ := decodeOpcode_of_mem_unassignedOpcodes hop
    constructor
    · rw [step_fetch hc hirq, fetchInstr_op hdec, exec_eq_performKind, hk, performKind_illegal, if_pos hon]
    · rw [systemStep_fetch hc hirq, fetchStep_op hdec, hk, firstCycle_illegal, if_pos hon]
  · have hlaw : Lawful s.illegalFault r := by
      rcases hr with rfl | rfl
      · exact step_lawful s
      · exact systemStep_lawful s
    exact hlaw.imp_right And.right

/-- Settles O35: the byte after 0xCB decodes to one instruction of the CB table, which the trampoline runs. -/
theorem trampolineRunsTheCbInstruction : Obligations.TrampolineRunsTheCbInstruction := by
  refine fun i h => ⟨encode_of_kind h, fun s j hj => ?_⟩
  have hdec : decodeOpcodePrefix (cpuRead s (s.regs.pc + 1)) = j := by
    rw [decode_cbPrefix rfl] at hj; cases hj; rfl
  have hsame : exec i s = exec j s := by rw [exec_eq_performKind, h, performKind_prefixCb, hdec]
  have hnext := performKind_of_isCbKind (isCbKind_decodeOpcodePrefix (cpuRead s (s.regs.pc + 1))) s
  rw [← exec_eq_performKind, hdec] at hnext
  exact ⟨_, hsame.trans hnext, hnext⟩

/-- Settles O41: each has one M-cycle, its last; an unassigned opcode's is NOP's where the switch is off. -/
theorem nopDiEiAndUnassigned : Obligations.NopDiEiAndUnassigned := by
  have nopRun (s : State) : runTicks maxCycles nopTicks 0 .fresh s =
      { idle 1 s with regs := { s.regs with pc := s.regs.pc + 1 }, cur := none } :=
    runTicks_last_setRegs (u := s) (l' := .fresh) rfl
  refine ⟨fun i h => ⟨encode_of_kind h, fun s => exec_eq_next h nofun (nopRun s)⟩,
    fun i op h => ⟨encode_of_kind h, fun s => ?_⟩,
    fun i h => ⟨encode_of_kind h, fun s => exec_eq_next h nofun ?_⟩,
    fun i h => ⟨encode_of_kind h, fun s => exec_eq_next h nofun ?_⟩⟩
  · rw [exec_eq_performKind, h, performKind_illegal]
    exact ⟨fun hoff => (if_neg (ne_true_of_eq_false hoff)).trans (congrArg _ (nopRun s)), fun hon => if_pos hon⟩
  · exact runTicks_last_withCpu (s := s) (c := s.cur) (l' := .fresh) rfl
  · exact runTicks_last_withCpu (s := s) (c := s.cur) (l' := .fresh) rfl

/-- Settles O42: the first tick chooses between the halt bug's extra M-cycle and the result HALT, which every later tick of
a waiting HALT answers again. -/
theorem haltWaitsForAQueuedInterrupt : Obligations.HaltWaitsForAQueuedInterrupt := by
  refine fun i h => ⟨encode_of_kind h, fun s hime hq => exec_eq_next h nofun ?_, fun s hwait => exec_eq_next h nofun ?_,
    fun s n l hc hl => ?_⟩
  · have bug : haltTicks 0 .fresh s = .more (s.advancePc 1) { Latches.fresh with haltBug := true } :=
      if_pos (by rw [hime, hq]; rfl)
    refine (runTicks_more bug).trans ?_
    refine (congrArg _ (idle_advancePc 1 s 1)).trans ?_
    exact runTicks_last_regs (m := 1) (fun _ => rfl) rfl
  · have waits : haltTicks 0 .fresh s = { state := s.advancePc 1, latches := .fresh, result := .halt } :=
      if_neg (by rcases hwait with e | e <;> simp [e])
    refine (runTicks_halted waits).trans ?_
    rw [idle_advancePc]
    rfl
  · rw [step_running hc]
    exact congrArg _ (runTicks_halted (haltTicks_waiting n s hl))

/-- Settles O43: every tick answers STOP, and the first alone advances PC and resets the divider counter. -/
theorem stopWaitsForTheJoypad : Obligations.StopWaitsForTheJoypad := by
  refine fun i h => ⟨encode_of_kind h, fun s => exec_eq_next h nofun ?_, fun s n l hc => ?_⟩
  · refine (runTicks_stopped (l' := .fresh) rfl).trans ?_
    have hpast := setRegs_of_withCpu dmaTick_comp_envStep_withCpu { s with timer := { s.timer with sysctr := 0 } }
      { s.regs with pc := s.regs.pc + Config.stopLength }
    exact congrArg (State.withSlot · (if s.joypNibble = 0 then none else some (.running .stop 1 .fresh))) hpast
  · rw [step_running hc]
    exact congrArg _ (runTicks_stopped rfl)

end
end

section
/-! Interrupts (60_exceptions.md R321 to R326): the bits of the five types, the type that is due, and the M-cycles of its
ServiceRoutine. -/

namespace Sys2Proof.Machine

open Claims (irqBit)

/-! ### The bits of the types -/

theorem exists_irqBit {j : Nat} (h : j < 5) : ∃ t, irqBit t = j := by
  interval_cases j
  exacts [⟨.vblank, rfl⟩, ⟨.lcd, rfl⟩, ⟨.timer, rfl⟩, ⟨.serial, rfl⟩, ⟨.joypad, rfl⟩]

/-- `pop()` gives the lowest set bit (R323). -/
theorem popIrq_eq_some_iff (m : BitVec 5) (t : Irq) :
    popIrq m = some t ↔ m.getLsbD (irqBit t) = true ∧ ∀ j, j < irqBit t → m.getLsbD j = false := by
  revert m
  cases t <;> decide

theorem mask_and_vector (t : Irq) :
    t.mask = BitVec.ofNat 5 (2 ^ irqBit t) ∧ t.vector = BitVec.ofNat 16 (0x40 + 8 * irqBit t) := by
  cases t <;> exact ⟨rfl, rfl⟩

theorem pending_getLsbD (s : State) (t : Irq) :
    s.pending.getLsbD (irqBit t) = (s.iflag.getLsbD (irqBit t) && s.ie.getLsbD (irqBit t)) := by
  have hbit : irqBit t < 5 := by cases t <;> decide
  simp [State.pending, hbit]

/-- Something is queued when a type's bit stands in both IF and IE (R322). -/
theorem queued_iff (s : State) :
    s.queued = true ↔ ∃ t, s.iflag.getLsbD (irqBit t) = true ∧ s.ie.getLsbD (irqBit t) = true := by
  simp only [← Bool.and_eq_true, ← pending_getLsbD]
  unfold State.queued
  rw [bne_iff_ne]
  constructor
  · contrapose!
    intro h
    refine BitVec.eq_of_getLsbD_eq fun j hj => ?_
    obtain ⟨t, rfl⟩ := exists_irqBit hj
    exact (Bool.eq_false_iff.2 (h t)).trans BitVec.getLsbD_zero.symm
  · rintro ⟨t, ht⟩ h0
    rw [h0] at ht
    exact nomatch BitVec.getLsbD_zero.symm.trans ht

/-! ### The dispatch -/

theorem step_dispatch {s : State} {t : Irq} (hc : s.cur = none) (hirq : dueIrq s = some t) :
    step s = .next (takeInterrupt t s) := by
  unfold step; rw [hc]; dsimp only; rw [hirq]

/-- The five M-cycles of the ServiceRoutine: two internal ones, the two pushes of PC, the jump (R324). -/
theorem takeInterrupt_eq (t : Irq) (s : State) :
    takeInterrupt t s =
      { idle 2 (pushWord (idle 2 (acceptIrq t s)) s.regs.sp s.regs.pc) with
        regs := { s.regs with sp := s.regs.sp - 2, pc := t.vector }, cur := none } := by
  have second : s.regs.sp - 1 - 1 = s.regs.sp - 2 := sub_one_sub_one _
  unfold pushWord
  rw [← second]
  show runTicks maxCycles (serviceTicks t) 0 .fresh ((idle 0 (acceptIrq t s)).setRegs s.regs) = _
  refine (runTicks_more_regs (l' := fun _ => .fresh) fun _ => rfl).trans ?_
  refine (runTicks_more_regs (l' := fun _ => .fresh) fun _ => rfl).trans ?_
  refine (runTicks_more_push (v := hiByte s.regs.pc) fun _ => rfl).trans ?_
  refine (runTicks_more_push (m := 0) (v := loByte s.regs.pc) fun _ => rfl).trans ?_
  exact runTicks_last_regs (m := 1) (fun _ => rfl) rfl

end Sys2Proof.Machine

section
open Sys2Proof Sys2Proof.Machine

/-- Settles O8: the lowest set bit, type by type, and the queue as the bits of the types. -/
theorem priorityMasksAndVectors : Obligations.PriorityMasksAndVectors :=
  ⟨popIrq_eq_some_iff, mask_and_vector, fun s => ⟨queued_iff s, rfl⟩⟩

/-- Settles O7: the type of the lowest set bit is the one that is due, and its ServiceRoutine runs as one step. -/
theorem stepDispatchesTheQueuedInterrupt : Obligations.StepDispatchesTheQueuedInterrupt := by
  intro s t hc hime hbit hlower
  have hirq : dueIrq s = some t := (if_pos hime).trans ((popIrq_eq_some_iff _ t).2 ⟨hbit, hlower⟩)
  exact (step_dispatch hc hirq).trans (congrArg _ (takeInterrupt_eq t s))

end
end

section
/-! The environment's move (60_exceptions.md R350), from the frame of its actions and the bytes they leave. -/

open Sys2Proof Sys2Proof.Machine

/-- Settles O55: a move is a sequence of actions, each of which leaves all this. -/
theorem environmentTouchesOnlyItsOwn : Obligations.EnvironmentTouchesOnlyItsOwn := by
  intro s
  have h := envStep_frame s
  exact ⟨envStep_regs s, envStep_ime s, envStep_cur s, h.timer, h.ie, h.dma, h.cart, h.dmaLock, h.sel,
    fun _ ha => envStep_peek s ha⟩

end

section
/-! The timer (60_exceptions.md R336 to R340): one tick by the edge of the watched bit, what a run of ticks does to the
counter, and the place of the counter in the period of its clock select. -/

namespace Sys2Proof.Machine

open Claims (timerTicks timaPeriod)

/-! ### One tick (R336) -/

section
variable (t : Timer)

theorem Timer.tick_sysctr : t.tick.sysctr = t.sysctr + 1 := by
  unfold Timer.tick Timer.edge Timer.reload
  dsimp only
  split <;> split <;> rfl

/-- With no falling edge a tick moves the counter on and reloads TIMA if an overflow is pending. -/
theorem Timer.tick_of_no_edge (h : (t.prevBit && !watchedBit (t.sysctr + 1) t.tac) = false) :
    t.tick = { t.reload with sysctr := t.sysctr + 1, prevBit := watchedBit (t.sysctr + 1) t.tac } := by
  unfold Timer.tick Timer.edge Timer.reload
  dsimp only
  split <;> rw [if_neg (by rw [h]; nofun)]

/-- A falling edge counts TIMA, and its wrap to 0 leaves an overflow for the next tick. -/
theorem Timer.tick_of_falling_edge (hprev : t.prevBit = true) (hcur : watchedBit (t.sysctr + 1) t.tac = false)
    (hovf : t.ovfPending = false) :
    t.tick = { t with sysctr := t.sysctr + 1, tima := t.tima + 1, prevBit := false,
                      ovfPending := decide (t.tima = 0xFF) } := by
  have wrap : ∀ b : Byte, (b + 1 == 0) = decide (b = 0xFF) := by decide
  unfold Timer.tick Timer.edge Timer.reload
  dsimp only
  rw [if_neg (ne_true_of_eq_false hovf), hcur, if_pos (by rw [hprev]; rfl), wrap, hovf]
  rfl

theorem Timer.tick_tac : t.tick.tac = t.tac := t.tick_tma_tac.2

end

/-! ### The counter over a run of ticks -/

theorem timerTicks_add (m n : Nat) (t : Timer) : timerTicks (m + n) t = timerTicks n (timerTicks m t) := by
  induction m generalizing t with
  | zero => rw [Nat.zero_add]; rfl
  | succ m ih => rw [Nat.succ_add]; exact ih t.tick

theorem timerTicks_sysctr (n : Nat) (t : Timer) : (timerTicks n t).sysctr = t.sysctr + BitVec.ofNat 14 n := by
  induction n generalizing t with
  | zero => exact (BitVec.add_zero _).symm
  | succ n ih =>
    refine (ih t.tick).trans ?_
    rw [t.tick_sysctr, Nat.add_comm n 1, BitVec.ofNat_add]
    exact BitVec.add_assoc ..

/-- DIV is the counter in units of 64 ticks (R338). -/
theorem div_timerTicks (t : Timer) (n : Nat) : (timerTicks (64 * n) t).div = t.div + BitVec.ofNat 8 n := by
  apply BitVec.eq_of_toNat_eq
  rw [BitVec.toNat_add, BitVec.toNat_ofNat, Timer.div_toNat, Timer.div_toNat, timerTicks_sysctr, BitVec.toNat_add,
    BitVec.toNat_ofNat]
  omega

/-- A counter that has just been reset and ticked has none of the watched bits set (R337, R338). -/
theorem watchedBit_one (tac : BitVec 3) : watchedBit 1 tac = false := by
  revert tac; decide

/-! ### The period of a clock select (R337) -/

/-- How far the counter is in the current period of the clock select. -/
def Timer.phase (t : Timer) : Nat := t.sysctr.toNat % timaPeriod t.tac

theorem timaPeriod_cases (tac : BitVec 3) :
    timaPeriod tac = 256 ∨ timaPeriod tac = 4 ∨ timaPeriod tac = 16 ∨ timaPeriod tac = 64 := by
  revert tac; decide

/-- The bit a clock select watches is the top bit of a number below its period, and is set in the period's second half. -/
theorem watchedBit_eq (c : BitVec 14) {tac : BitVec 3} (h : tac.getLsbD 2 = true) :
    watchedBit c tac = decide (timaPeriod tac ≤ 2 * (c.toNat % timaPeriod tac)) := by
  have bit : ∀ k, c.getLsbD k = decide (c.toNat / 2 ^ k % 2 = 1) := fun k => Nat.testBit_eq_decide_div_mod_eq
  have enabled : ∀ x : BitVec 3, x.getLsbD 2 = true → x = 4 ∨ x = 5 ∨ x = 6 ∨ x = 7 := by decide
  rcases enabled tac h with rfl | rfl | rfl | rfl
  · show c.getLsbD 7 = decide (256 ≤ 2 * (c.toNat % 256))
    rw [bit, decide_eq_decide]; omega
  · show c.getLsbD 1 = decide (4 ≤ 2 * (c.toNat % 4))
    rw [bit, decide_eq_decide]; omega
  · show c.getLsbD 3 = decide (16 ≤ 2 * (c.toNat % 16))
    rw [bit, decide_eq_decide]; omega
  · show c.getLsbD 5 = decide (64 ≤ 2 * (c.toNat % 64))
    rw [bit, decide_eq_decide]; omega

theorem Timer.phase_lt (t : Timer) : t.phase < timaPeriod t.tac := by
  refine Nat.mod_lt _ ?_
  have := timaPeriod_cases t.tac
  omega

/-- The counter's 2^14 values are a whole number of periods. -/
theorem Timer.phase_tick (t : Timer) : t.tick.phase = (t.phase + 1) % timaPeriod t.tac := by
  have hdvd : timaPeriod t.tac ∣ 2 ^ 14 := by
    rcases timaPeriod_cases t.tac with h | h | h | h <;> rw [h] <;> decide
  unfold Timer.phase
  rw [t.tick_tac, t.tick_sysctr, BitVec.toNat_add, Nat.mod_mod_of_dvd _ hdvd, Nat.mod_add_mod]
  rfl

/-- An enabled timer with no overflow on the way, its previous bit being the watched bit of its counter, as a tick leaves
it. -/
structure Timer.Steady (t : Timer) : Prop where
  enabled : t.tac.getLsbD 2 = true
  noOverflow : t.ovfPending = false
  prev : t.prevBit = watchedBit t.sysctr t.tac

section
variable {t : Timer} (h : t.Steady)
include h

theorem Timer.Steady.prevBit_eq : t.prevBit = decide (timaPeriod t.tac ≤ 2 * t.phase) :=
  h.prev.trans (watchedBit_eq t.sysctr h.enabled)

theorem Timer.Steady.nextBit_eq :
    watchedBit (t.sysctr + 1) t.tac = decide (timaPeriod t.tac ≤ 2 * ((t.phase + 1) % timaPeriod t.tac)) := by
  rw [← t.phase_tick, Timer.phase, t.tick_tac, t.tick_sysctr]
  exact watchedBit_eq _ h.enabled

/-- Inside a period a tick moves the counter and nothing else. -/
theorem Timer.Steady.tick_within (hp : t.phase + 1 < timaPeriod t.tac) :
    t.tick = { t with sysctr := t.sysctr + 1, prevBit := watchedBit (t.sysctr + 1) t.tac } := by
  have hreload : t.reload = t := if_neg (by rw [h.noOverflow]; nofun)
  have hedge : (t.prevBit && !watchedBit (t.sysctr + 1) t.tac) = false := by
    rw [h.prevBit_eq, h.nextBit_eq, Nat.mod_eq_of_lt hp]
    simp
    omega
  rw [t.tick_of_no_edge hedge, hreload]

/-- The tick that ends a period counts TIMA. -/
theorem Timer.Steady.tick_end (hp : t.phase + 1 = timaPeriod t.tac) (htima : t.tima ≠ 0xFF) :
    t.tick = { t with sysctr := t.sysctr + 1, prevBit := watchedBit (t.sysctr + 1) t.tac, tima := t.tima + 1 } := by
  have hbig := timaPeriod_cases t.tac
  have hprev : t.prevBit = true := by
    rw [h.prevBit_eq]; exact decide_eq_true (by omega)
  have hcur : watchedBit (t.sysctr + 1) t.tac = false := by
    rw [h.nextBit_eq, hp, Nat.mod_self]; exact decide_eq_false (by omega)
  rw [t.tick_of_falling_edge hprev hcur h.noOverflow, hcur, decide_eq_false htima, ← h.noOverflow]

/-- A run of ticks inside a period. -/
theorem Timer.Steady.ticks_within {n : Nat} (hn : t.phase + n < timaPeriod t.tac) :
    (timerTicks n t).Steady ∧ (timerTicks n t).phase = t.phase + n ∧ (timerTicks n t).tac = t.tac ∧
      (timerTicks n t).tima = t.tima := by
  induction n generalizing t with
  | zero => exact ⟨h, rfl, rfl, rfl⟩
  | succ n ih =>
    have hp : t.phase + 1 < timaPeriod t.tac := by omega
    have htick := h.tick_within hp
    have hphase : t.tick.phase = t.phase + 1 := t.phase_tick.trans (Nat.mod_eq_of_lt hp)
    have hsteady : t.tick.Steady := by rw [htick]; exact ⟨h.enabled, h.noOverflow, rfl⟩
    obtain ⟨steady, phase, tac, tima⟩ := ih hsteady (by rw [hphase, t.tick_tac]; omega)
    refine ⟨steady, ?_, tac.trans t.tick_tac, tima.trans (by rw [htick])⟩
    show (timerTicks n t.tick).phase = _
    omega

/-- A whole period, from anywhere in it: the rest of the period but its last tick, that tick, and as many ticks of the next
period as the first had gone. -/
theorem Timer.Steady.tima_after_period (htima : t.tima ≠ 0xFF) :
    (timerTicks (timaPeriod t.tac) t).tima = t.tima + 1 := by
  have hlt := t.phase_lt
  obtain ⟨steady, phase, tac, tima⟩ := h.ticks_within (n := timaPeriod t.tac - 1 - t.phase) (by omega)
  have hsplit : timaPeriod t.tac = (timaPeriod t.tac - 1 - t.phase) + (t.phase + 1) := by omega
  conv_lhs => rw [hsplit, timerTicks_add]
  generalize timerTicks (timaPeriod t.tac - 1 - t.phase) t = u at steady phase tac tima
  have hlast : u.phase + 1 = timaPeriod u.tac := by rw [tac]; omega
  have htick := steady.tick_end hlast (by rwa [tima])
  have hphase : u.tick.phase = 0 := by rw [u.phase_tick, hlast, Nat.mod_self]
  have hsteady : u.tick.Steady := by rw [htick]; exact ⟨steady.enabled, steady.noOverflow, rfl⟩
  obtain ⟨-, -, -, hrest⟩ := hsteady.ticks_within (n := t.phase) (by rw [hphase, u.tick_tac, tac]; omega)
  refine hrest.trans ?_
  rw [htick, ← tima]

end

end Sys2Proof.Machine

section
open Sys2Proof Sys2Proof.Machine

/-- Settles O51: the edge leaves the overflow pending, and the next tick, which finds no edge, reloads TIMA. -/
theorem overflowReloadsOneTickLater : Obligations.OverflowReloadsOneTickLater := by
  intro s hovf htima hprev hcur
  have htick := s.timer.tick_of_falling_edge hprev hcur hovf
  have hiflag : (timerTick s).iflag = s.iflag := if_neg (by rw [hovf]; nofun)
  rw [htima] at htick
  have hpending : (timerTick s).timer.ovfPending = true := by rw [timerTick_timer, htick]; rfl
  refine ⟨by rw [timerTick_timer, htick]; rfl, hiflag, hpending, ?_⟩
  intro tima tma s'
  have hlevel : s'.timer.prevBit = false := by
    show s.timer.tick.prevBit = false
    rw [htick]
  have hnext := s'.timer.tick_of_no_edge (by rw [hlevel]; rfl)
  have hreload : s'.timer.reload = { s'.timer with tima := tma, ovfPending := false } := if_pos hpending
  rw [hreload] at hnext
  refine ⟨congrArg Timer.tima hnext, (if_pos hpending).trans ?_, congrArg Timer.ovfPending hnext⟩
  rw [← hiflag]
  rfl

/-- Settles O52: the counter after any number of ticks, and the tick after a reset as an edge of the watched bit. -/
theorem divCountsAndResets : Obligations.DivCountsAndResets := by
  refine ⟨div_timerTicks, fun s v => ?_⟩
  rw [cpuWrite_io s v rfl]
  refine ⟨Timer.tick_sysctr _, fun hprev hovf => ?_⟩
  have htick := Timer.tick_of_falling_edge { s.timer with sysctr := 0 } hprev (watchedBit_one _) hovf
  exact ⟨congrArg Timer.tima htick, congrArg Timer.ovfPending htick⟩

/-- Settles O53: from anywhere in it, a period of ticks holds one falling edge of the watched bit. -/
theorem timaCountsOncePerPeriod : Obligations.TimaCountsOncePerPeriod :=
  fun _ henabled hovf htima hprev => Timer.Steady.tima_after_period ⟨henabled, hovf, hprev⟩ htima

end
end

section
/-! A whole OAM DMA transfer (60_exceptions.md R345, R346): the machine after each of its ticks, with the bytes copied so
far. -/

namespace Sys2Proof.Machine

open Claims (dmaTicks)

theorem dmaTicks_succ (n : Nat) (s : State) : dmaTicks (n + 1) s = dmaTick (dmaTicks n s) := by
  induction n generalizing s with
  | zero => rfl
  | succ n ih => exact ih (dmaTick s)

/-! ### The bytes of a transfer -/

/-- The address of byte i of OAM. -/
def oamAddr (i : Nat) : Word := 0xFE00 + BitVec.ofNat 16 i

/-- The address of byte i of page v. -/
def pageAddr (v : Byte) (i : Nat) : Word := (v ++ (0 : Byte)) + BitVec.ofNat 16 i

theorem oamAddr_toNat {i : Nat} (h : i < 160) : (oamAddr i).toNat = 0xFE00 + i := by
  rw [oamAddr, BitVec.toNat_add, BitVec.toNat_ofNat, show BitVec.toNat (0xFE00 : Word) = 0xFE00 from rfl]
  omega

theorem pageAddr_toNat (v : Byte) {i : Nat} (h : i < 160) : (pageAddr v i).toNat = v.toNat * 256 + i := by
  have hpage : (v ++ (0 : Byte)).toNat = v.toNat * 256 + 0 := joinBytes_toNat v 0
  have hv := v.isLt
  rw [pageAddr, BitVec.toNat_add, BitVec.toNat_ofNat, hpage]
  omega

theorem region_oamAddr {i : Nat} (h : i < 160) : region (oamAddr i) = .oam := by
  have := oamAddr_toNat h
  exact region_oam (by omega) (by omega)

/-- No byte of a page is written before it is copied, even when the page is OAM's own. -/
theorem pageAddr_ne_oamAddr (v : Byte) {i n : Nat} (hi : i < n) (hn : n < 160) : pageAddr v n ≠ oamAddr i := by
  intro e
  have := congrArg BitVec.toNat e
  rw [pageAddr_toNat v hn, oamAddr_toNat (hi.trans hn)] at this
  omega

/-- RAM with the first n bytes of page v, as the machine `s` reads them, in OAM. -/
def copiedRam (s : State) (v : Byte) : Nat → Memory
  | 0 => s.mem
  | n + 1 => (copiedRam s v n).write (oamAddr n) (busRead s (pageAddr v n) .dma)

theorem read_copiedRam_other (s : State) (v : Byte) {n : Nat} {a : Word} (h : ∀ i < n, a ≠ oamAddr i) :
    (copiedRam s v n).read a = s.mem.read a := by
  induction n with
  | zero => rfl
  | succ n ih =>
    exact (Memory.read_write_other _ _ (h n n.lt_succ_self)).trans (ih fun i hi => h i (hi.trans n.lt_succ_self))

theorem read_copiedRam_oamAddr (s : State) (v : Byte) {n i : Nat} (hn : n ≤ 160) (hi : i < n) :
    (copiedRam s v n).read (oamAddr i) = busRead s (pageAddr v i) .dma := by
  induction n with
  | zero => exact absurd hi i.not_lt_zero
  | succ n ih =>
    rcases Nat.lt_succ_iff_lt_or_eq.1 hi with hlt | rfl
    · have hne : oamAddr i ≠ oamAddr n := by
        intro e
        have := congrArg BitVec.toNat e
        rw [oamAddr_toNat (by omega), oamAddr_toNat (by omega)] at this
        omega
      exact (Memory.read_write_other _ _ hne).trans (ih (by omega) hlt)
    · exact Memory.read_write_same ..

/-! ### The machine during a transfer -/

/-- The machine `s` in a transfer of page v, after the tick that locks and n copies. -/
def midTransfer (s : State) (v : Byte) (n : Nat) : State :=
  { s with mem := copiedRam s v n, dma := { step := Fin.ofNat 161 (n + 1), bank := v, trigger := v },
           locks := { s.locks with dma := true } }

theorem midTransfer_step (s : State) (v : Byte) {n : Nat} (h : n < 160) : (midTransfer s v n).dma.step.val = n + 1 :=
  Nat.mod_eq_of_lt (by omega)

/-- The DMA reads past its own lock, and finds at an address not yet written what was there (20_memory.md R69). -/
theorem busRead_midTransfer {s : State} {v : Byte} (ht : s.dma.trigger = v) {n : Nat} {a : Word}
    (h : ∀ i < n, a ≠ oamAddr i) : busRead (midTransfer s v n) a .dma = busRead s a .dma := by
  have hmem : (midTransfer s v n).mem.read a = s.mem.read a := read_copiedRam_other s v h
  have hio : ioRead (midTransfer s v n) a = ioRead s a := by
    unfold ioRead
    cases ioReg a with
    | dma => exact ht.symm
    | _ => rfl
  have hpeek : peek (midTransfer s v n) a = peek s a := by
    unfold peek
    cases region a with
    | io => exact hio
    | vram | wram | oam | hram => exact hmem
    | _ => rfl
  have hlock : blocked (midTransfer s v n).locks (region a) .dma = blocked s.locks (region a) .dma := by
    simp [blocked, midTransfer]
  unfold busRead
  rw [hlock, hpeek]

/-- No lock keeps the DMA from OAM (20_memory.md R68, R69). -/
theorem busWrite_oam_dma (s : State) {a : Word} (v : Byte) (h : region a = .oam) :
    busWrite s a v .dma = { s with mem := s.mem.write a v } := by
  have hopen : blocked s.locks (region a) .dma = false := by rw [h]; simp [blocked]
  rw [busWrite_open v hopen]
  unfold poke
  rw [h]

theorem dmaCopy_midTransfer {s : State} {v : Byte} (ht : s.dma.trigger = v) {n : Nat} (hn : n < 160) :
    dmaCopy (midTransfer s v n) n = { midTransfer s v n with mem := copiedRam s v (n + 1) } := by
  show busWrite (midTransfer s v n) (oamAddr n) (busRead (midTransfer s v n) (pageAddr v n) .dma) .dma = _
  rw [busRead_midTransfer ht fun i hi => pageAddr_ne_oamAddr v hi hn, busWrite_oam_dma _ _ (region_oamAddr hn)]
  rfl

/-- The tick that sees the trigger locks. -/
theorem dmaTick_trigger {s : State} {v : Byte} (hs : s.dma.step = 0) (ht : s.dma.trigger = v) (hv : v ≠ 0) :
    dmaTick s = midTransfer s v 0 := by
  subst ht
  unfold dmaTick
  rw [if_pos hs, if_neg hv]
  rfl

/-- A tick of a running transfer copies its byte and, after the last one, unlocks and clears the trigger. -/
theorem dmaTick_midTransfer {s : State} {v : Byte} (ht : s.dma.trigger = v) {n : Nat} (hn : n < 160) :
    dmaTick (midTransfer s v n) =
      if n = 159 then { s with mem := copiedRam s v 160, dma := { step := 0, bank := v, trigger := 0 },
                               locks := { s.locks with dma := false } }
      else midTransfer s v (n + 1) := by
  have hstep := midTransfer_step s v hn
  have hcopy := dmaCopy_midTransfer ht hn
  unfold dmaTick
  rw [if_neg (by rw [← Fin.val_inj, hstep]; nofun), hstep, Nat.add_sub_cancel, hcopy]
  by_cases hlast : n = 159
  · subst hlast
    rfl
  · rw [if_neg (by omega), if_neg hlast]
    have hnext : (midTransfer s v n).dma.step + 1 = Fin.ofNat 161 (n + 1 + 1) := by
      apply Fin.ext
      rw [Fin.val_add, hstep]
      rfl
    dsimp only
    rw [hnext]
    rfl

section
variable {s : State} {v : Byte} (hs : s.dma.step = 0) (ht : s.dma.trigger = v) (hv : v ≠ 0)
include hs ht hv

theorem dmaTicks_succ_eq_midTransfer {n : Nat} (hn : n < 160) : dmaTicks (n + 1) s = midTransfer s v n := by
  induction n with
  | zero => exact dmaTick_trigger hs ht hv
  | succ n ih => rw [dmaTicks_succ, ih (by omega), dmaTick_midTransfer ht (by omega), if_neg (by omega)]

theorem dmaTicks_whole_transfer :
    dmaTicks 161 s = { s with mem := copiedRam s v 160, dma := { step := 0, bank := v, trigger := 0 },
                              locks := { s.locks with dma := false } } := by
  rw [dmaTicks_succ, dmaTicks_succ_eq_midTransfer hs ht hv (by decide), dmaTick_midTransfer ht (by decide), if_pos rfl]

end

end Sys2Proof.Machine

section
open Sys2Proof Sys2Proof.Machine

/-- Settles O54: the machine after every tick of a transfer is `midTransfer`, and after the last one OAM holds the page. -/
theorem dmaCopiesOnePageIn160Ticks : Obligations.DmaCopiesOnePageIn160Ticks := by
  intro s v hs ht hv
  have hend := dmaTicks_whole_transfer hs ht hv
  refine ⟨fun n h1 hn => ?_, by rw [hend], by rw [hend], by rw [hend], fun i hi => ?_⟩
  · obtain ⟨k, rfl⟩ := Nat.exists_eq_add_of_le' h1
    rw [dmaTicks_succ_eq_midTransfer hs ht hv (by omega)]
    rfl
  · rw [hend]
    show peek _ (oamAddr i) = busRead s (pageAddr v i) .dma
    unfold peek
    rw [region_oamAddr hi]
    exact read_copiedRam_oamAddr s v (Nat.le_refl _) hi

end
end

section
/-! The quiescent state that ends a run (70_reset_and_hazards.md R395): with no interrupt enabled nothing is ever queued, so
the M-cycle of its HALT is an idle one, in which an idle DMA controller can at most start. -/

namespace Sys2Proof.Machine

theorem quiescent_iff (s : State) : quiescent s = true ↔
    (∃ n l, s.cur = some (.running .halt (n + 1) l) ∧ l.haltBug = false) ∧ s.ie.setWidth 5 = (0 : BitVec 5) ∧
      s.dma.step = 0 := by
  simp only [quiescent, Bool.and_eq_true, beq_iff_eq, and_assoc]
  refine and_congr_left fun _ => ?_
  split
  · rename_i n l hc
    rw [hc, Bool.not_eq_true']
    exact ⟨fun h => ⟨n, l, rfl, h⟩, fun ⟨_, _, e, h⟩ => by cases e; exact h⟩
  · rename_i hother
    exact ⟨nofun, fun ⟨n, l, hc, _⟩ => absurd hc (hother n l)⟩

/-- With no type enabled in IE nothing is queued, whatever IF holds (60_exceptions.md R322). -/
theorem queued_of_ie_zero {s : State} (h : s.ie.setWidth 5 = (0 : BitVec 5)) : s.queued = false := by
  simp [State.queued, State.pending, h]

/-- The M-cycle of a waiting HALT is an idle one, but for the HALT exit (40_execution_cycle.md R140). -/
theorem systemStep_halt_waiting {s : State} {n : Nat} {l : Latches} (hc : s.cur = some (.running .halt (n + 1) l))
    (hl : l.haltBug = false) :
    systemStep s = .next ((idle 1 s).withSlot
      (if (timerTick s).queued then none else some (.running .halt (n + 1 + 1) l))) := by
  have htick : kindTicks .halt (n + 1) l s = { state := s, latches := l, result := .halt } := haltTicks_waiting n s hl
  have hcycle : objectCycle .halt (n + 1) l s =
      endCycle .halt (s.withSlot (some (.running .halt (n + 1 + 1) l))) := by
    unfold objectCycle
    rw [htick]
    rfl
  unfold systemStep
  rw [hc]
  exact congrArg _ (hcycle.trans (endCycle_halt_withSlot s _))

section
variable {s : State} (hstep : s.dma.step = 0)
include hstep

/-- An idle controller copies nothing: it starts the triggered transfer or does nothing (60_exceptions.md R345). -/
theorem dmaTick_of_step_zero : dmaTick s = { s with dma := (dmaTick s).dma, locks := (dmaTick s).locks } := by
  unfold dmaTick
  rw [if_pos hstep]
  split <;> rfl

/-- The environment leaves the controller idle, so the DMA tick of an idle M-cycle copies nothing. -/
theorem idle_one_of_step_zero :
    idle 1 s = { envStep (timerTick s) with dma := (idle 1 s).dma, locks := (idle 1 s).locks } :=
  dmaTick_of_step_zero ((congrArg Dma.step (envStep_frame (timerTick s)).dma).trans hstep)

theorem idle_one_ie : (idle 1 s).ie = s.ie := by
  rw [idle_one_of_step_zero hstep]
  exact (envStep_frame (timerTick s)).ie

theorem peek_idle_one {a : Word} (ha : region a = .wram ∨ region a = .hram) : peek (idle 1 s) a = peek s a := by
  have ram (t : State) : peek t a = t.mem.read a := by
    unfold peek
    rcases ha with ha | ha <;> rw [ha]
  calc peek (idle 1 s) a = (idle 1 s).mem.read a := ram _
    _ = (envStep (timerTick s)).mem.read a := by rw [idle_one_of_step_zero hstep]
    _ = peek (envStep (timerTick s)) a := (ram _).symm
    _ = peek (timerTick s) a := envStep_peek _ ha
    _ = peek s a := (ram _).trans (ram s).symm

theorem idle_one_dma (htrigger : s.dma.trigger = 0) : (idle 1 s).dma = s.dma := by
  have henv : (envStep (timerTick s)).dma = s.dma := (envStep_frame _).dma
  have hidle : dmaTick (envStep (timerTick s)) = envStep (timerTick s) :=
    dmaTick_idle (henv ▸ hstep) (henv ▸ htrigger)
  exact (congrArg State.dma hidle).trans henv

end

/-- The M-cycle of a quiescent state: an idle one, after which the HALT is in the slot. -/
theorem systemStep_quiescent {s : State} {n : Nat} {l : Latches} (hc : s.cur = some (.running .halt (n + 1) l))
    (hl : l.haltBug = false) (hie : s.ie.setWidth 5 = (0 : BitVec 5)) :
    systemStep s = .next ((idle 1 s).withSlot (some (.running .halt (n + 1 + 1) l))) := by
  have hquiet : (timerTick s).queued = false := queued_of_ie_zero hie
  rw [systemStep_halt_waiting hc hl, if_neg (ne_true_of_eq_false hquiet)]

end Sys2Proof.Machine

section
open Sys2Proof Sys2Proof.Machine

/-- Settles O60: the M-cycle is an idle one that leaves the HALT in the slot, and what an idle M-cycle leaves is all that is
claimed. -/
theorem quiescentStaysAsItIs : Obligations.QuiescentStaysAsItIs := by
  intro s hs
  obtain ⟨⟨n, l, hc, hl⟩, hie, hstep⟩ := (quiescent_iff s).1 hs
  have hview : (idle 1 s).view = s.view := by unfold State.view; rw [idle_regs, idle_ime]
  have hstays : (idle 1 s).ie = s.ie := idle_one_ie hstep
  refine ⟨_, systemStep_quiescent hc hl hie, hview, hstays, ⟨_, _, rfl⟩, fun a ha => peek_idle_one hstep ha,
    fun htrigger => ?_⟩
  refine (quiescent_iff _).2 ⟨⟨_, l, rfl, hl⟩, (congrArg (BitVec.setWidth 5) hstays).trans hie, ?_⟩
  exact (congrArg Dma.step (idle_one_dma hstep htrigger)).trans hstep

end
end
